-- ==== Sys2Proof/Word.lean ====
section
/-! DEFINITION. The word types of the block: spec/00_scope.md rule R5 (fixed sizes) and section 5
(bit 0 is the least significant bit). Every value is unsigned. -/

namespace Sys2Proof

/-- An unsigned 8-bit value, `u8` (rule R5). -/
abbrev Byte := BitVec 8

/-- An unsigned 32-bit value, `u32`, the word width `W` of rule R5. -/
abbrev Word := BitVec 32

/-- An unsigned 64-bit value, `u64`: the data port of rule R43. -/
abbrev DWord := BitVec 64

/-- The 96-bit payload of a command word (rule R35). -/
abbrev Payload := BitVec 96

/-- A 99-bit command word `cmd[98:0]` (rule R35). -/
abbrev CmdWord := BitVec 99

end Sys2Proof
end

