-- ==== Sys2Proof/Config.lean ====
section
/-! DEFINITION. The two build-time parameters of the block, spec/00_scope.md rules R4 and R6, as a
record that one block carries unchanged (log 5). The fixed sizes of rule R5 are in Word.lean. -/

namespace Sys2Proof

/-- The engine a build contains (rule R4): exactly one of the two. -/
inductive Engine where
  | scalar
  | vector
  deriving DecidableEq, Repr

/-- The build parameters: `engine` is `ENGINE` (rule R4), `lenW` is `LEN_W`, the width in bits of the
byte count a `FILL` carries (rule R6). -/
structure Build where
  engine : Engine
  lenW   : Nat
  deriving DecidableEq, Repr

/-- The builds rule R6 allows: `1 <= LEN_W <= 96`. -/
def Build.wf (b : Build) : Bool := decide (1 ≤ b.lenW) && decide (b.lenW ≤ 96)

/-- The build `State.reset` carries: `ENGINE = SCALAR`, `LEN_W = 32`. DESIGN CHOICE (log 5), unsafe
for a statement about `State.reset` only: rules R4 and R6 leave both open, every definition takes the
build from the state, and 95_test_vectors.md decodes lengths with `LEN_W = 32`. -/
def Config.resetBuild : Build := { engine := .scalar, lenW := 32 }

end Sys2Proof
end

