-- ==== Sys2Proof/Syntax.lean ====
section
/-! DEFINITION. The five commands with their typed operands (spec/30_encoding.md rule R48, one
constructor per row of spec/opcode_table.json), the host's two moves (spec/70_reset_and_hazards.md
rule R129) and the lines of the assembler notation (rule R46). -/

namespace Sys2Proof

/-- The five commands (rule R48). -/
inductive Instr where
  /-- `SEEDB b0, ..., b11`: permissive seeding from twelve bytes, offset 0 first (rule R53). -/
  | seedb (b : Vector Byte 12)
  /-- `SEEDW seed1, seed2, seed3`: strict seeding from three words (rule R54). -/
  | seedw (seed1 seed2 seed3 : Word)
  /-- `NEXT32`: one draw (rule R65). -/
  | next32
  /-- `NEXT64`: two draws, the first in the high half (rule R66). -/
  | next64
  /-- `FILL N`: `N` bytes (rule R92). -/
  | fill (n : Nat)
  deriving DecidableEq, Repr

/-- The host's two moves (rule R129): present one command word, or assert reset. -/
inductive Move where
  | cmd (w : CmdWord)
  | reset
  deriving DecidableEq, Repr

/-- A line of the notation of rule R46: a mnemonic with its operands, `RAW w`, or `RESET`. -/
inductive Line where
  | command (i : Instr)
  | raw (w : CmdWord)
  | reset
  deriving DecidableEq, Repr

end Sys2Proof
end

