-- ==== Sys2Proof/WellFormed.lean ====
section
/-! DEFINITION. Which commands a build can encode. Only the byte count of `FILL` has a bound: it must
fit in `LEN_W` bits (spec/00_scope.md rule R6, spec/92_eei_decisions.md D24). Every other operand
value is legal (spec/30_encoding.md rules R37, R38, R40): words below a minimum are well formed and
make `SEEDW` fault. -/

namespace Sys2Proof

/-- The command can be encoded on a block of build `b`. -/
def Instr.wf (b : Build) : Instr → Bool
  | .seedb _ => true
  | .seedw _ _ _ => true
  | .next32 => true
  | .next64 => true
  | .fill n => decide (n < 2 ^ b.lenW)

end Sys2Proof
end

