-- ==== Sys2Proof/Decode.lean ====
section
/-! DEFINITION. The command word and its decoding, spec/30_encoding.md rules R35 to R41 and R46. The
decoder is total on every 99-bit word; the three reserved opcodes are rejected by name. -/

namespace Sys2Proof

/-- Why a command word is no command (rule R41). Raised by `decode` on opcodes 0, 6 and 7; the
machine answers such a word with `IllegalCommand` (rule R103). -/
inductive Reject where
  | reservedOpcode (op : BitVec 3)
  deriving DecidableEq, Repr

/-- `op = cmd[98:96]` (rule R35). -/
def opField (w : CmdWord) : BitVec 3 := w.extractLsb' 96 3

/-- `payload = cmd[95:0]` (rule R35). -/
def payloadField (w : CmdWord) : Payload := w.extractLsb' 0 96

/-- Seed byte `b[k] = payload[8k+7:8k]` (rule R37). -/
def payloadByte (p : Payload) (k : Nat) : Byte := p.extractLsb' (8 * k) 8

/-- Operand word number `i` of `SEEDW`, counted from 0: `payload[32i+31:32i]` (rule R38). -/
def payloadWord (p : Payload) (i : Nat) : Word := p.extractLsb' (32 * i) 32

/-- The twelve seed bytes, offset 0 first (rule R37). -/
def seedBytesOf (p : Payload) : Vector Byte 12 :=
  #v[payloadByte p 0, payloadByte p 1, payloadByte p 2, payloadByte p 3,
     payloadByte p 4, payloadByte p 5, payloadByte p 6, payloadByte p 7,
     payloadByte p 8, payloadByte p 9, payloadByte p 10, payloadByte p 11]

/-- `N = payload[LEN_W-1:0]`, unsigned; the bits above are ignored (rule R39). -/
def lengthOf (b : Build) (p : Payload) : Nat := p.toNat % 2 ^ b.lenW

/-- The command a word stands for, by the opcode map of rule R36. -/
def decode (b : Build) (w : CmdWord) : Except Reject Instr :=
  let p := payloadField w
  match (opField w).toNat with
  | 1 => .ok (.seedb (seedBytesOf p))
  | 2 => .ok (.seedw (payloadWord p 0) (payloadWord p 1) (payloadWord p 2))
  | 3 => .ok .next32
  | 4 => .ok .next64
  | 5 => .ok (.fill (lengthOf b p))
  | _ => .error (.reservedOpcode (opField w))

/-- The opcode of a command (rule R36). -/
def opcodeOf : Instr → BitVec 3
  | .seedb _ => 1
  | .seedw _ _ _ => 2
  | .next32 => 3
  | .next64 => 4
  | .fill _ => 5

/-- Twelve bytes as a payload, byte `k` at bits `8k+7:8k` (rule R37). -/
def payloadOfBytes (b : Vector Byte 12) : Payload :=
  b[11] ++ b[10] ++ b[9] ++ b[8] ++ b[7] ++ b[6] ++ b[5] ++ b[4] ++ b[3] ++ b[2] ++ b[1] ++ b[0]

/-- The payload of a command the build can encode; the bits its command ignores are then 0 (rule R46).
DESIGN CHOICE (log 17), safe: a byte count that does not fit `LEN_W` has no encoding (D24), and for one
this total function gives the low 96 bits of `N`, those `FILL` ignores among them. -/
def payloadOf : Instr → Payload
  | .seedb b => payloadOfBytes b
  | .seedw s1 s2 s3 => s3 ++ s2 ++ s1
  | .next32 => 0
  | .next64 => 0
  | .fill n => BitVec.ofNat 96 n

/-- The command word `op ++ payload` of a command (rule R35), as the mnemonic forms write it. For a
command no word of the build encodes (`Instr.wf` false) it is the choice of log 17. -/
def encode (i : Instr) : CmdWord := opcodeOf i ++ payloadOf i

/-- The host move a line of rule R46 stands for: `RAW w` presents `w` as it is, `RESET` is the reset
event, a mnemonic presents its encoding (for a `FILL N` that has none: log 17). -/
def assemble : Line → Move
  | .command i => .cmd (encode i)
  | .raw w => .cmd w
  | .reset => .reset

/-- The command word made of the low `nbits` bits of `w`, as spec/opcode_table.json numbers them. The
`cmd` port has 99 wires: bits 98:0 are taken and a bit above 98 does not exist (log 12). -/
def cmdWordOfTable (nbits w : Nat) : CmdWord := BitVec.ofNat 99 (w % 2 ^ nbits)

/-- What the decoder reads from a table word, with the length width of `State.reset`'s build. -/
def decodeTableWord (nbits w : Nat) : Option Instr :=
  match decode Config.resetBuild (cmdWordOfTable nbits w) with
  | .ok i => some i
  | .error _ => none

end Sys2Proof
end

