-- ==== Sys2Proof/Machine/Operands.lean ====
section
/-! DEFINITION. The operand primitives: bitwise and shift operations on `u32` (spec/00_scope.md rules
R7 to R9), the seed buffer (spec/20_memory.md rules R20, R23; spec/40_seeding.md rule R50), the
destination buffer (rule R21) and the little-endian bytes of a word (spec/43_byte_emission.md rules
R90, R91). -/

namespace Sys2Proof.Machine

/-- `a & b` (rule R7). -/
def and32 (a b : Word) : Word := a &&& b

/-- `a xor b` (rule R7). -/
def xor32 (a b : Word) : Word := a ^^^ b

/-- `a << n`: bits shifted out are dropped, zeros enter (rule R8). For `n >= 32`, which no rule forms,
the result is 0 (log 9). -/
def shl32 (a : Word) (n : Nat) : Word := a <<< n

/-- `a >> n`, logical: zeros enter at bit 31 (rule R8). For `n >= 32`, which no rule forms, the result
is 0 (log 9). -/
def shr32 (a : Word) (n : Nat) : Word := a >>> n

/-- The unsigned maximum (rule R9). -/
def umax32 (a b : Word) : Word := if b ≤ a then a else b

/-- The byte at an offset of the seed buffer (rule R20). An offset of 12 or more does not exist and no
rule forms one; it reads as 0 here (log 10). -/
def seedByte (b : Vector Byte 12) (offset : Nat) : Byte :=
  if h : offset < 12 then b[offset] else 0

/-- `MemRead(addr, n)` on the seed buffer: `n` bytes as an `8n`-bit little-endian value, the byte at
`addr` in bits 7:0 (rules R20, R23). -/
def memRead (b : Vector Byte 12) (addr : Nat) : (n : Nat) → BitVec (8 * n)
  | 0 => 0
  | n + 1 => memRead b (addr + 1) n ++ seedByte b addr

/-- `SeedWords(b)`: three little-endian words in fixed field order (rule R50). -/
def seedWords (b : Vector Byte 12) : Word × Word × Word :=
  (memRead b 0 4, memRead b 4 4, memRead b 8 4)

/-- Byte `k` of a word, `w[8k+7:8k] = shr32(w, 8k) & 0xFF`, for `k` from 0 to 3 (rule R90). For a
greater `k`, which no rule forms, it is 0 (log 18). -/
def leByte (w : Word) (k : Nat) : Byte := w.extractLsb' (8 * k) 8

/-- `ToLeBytes(w)`, the low-order byte first (rule R90). -/
def toLeBytes (w : Word) : List Byte := [leByte w 0, leByte w 1, leByte w 2, leByte w 3]

/-- The 32-to-byte shifter (rule R91): with holding register `h`, emit `n` bytes; each emission puts
out `h[7:0]` and shifts `h` right by 8. -/
def shiftOut : (n : Nat) → (h : Word) → List Byte
  | 0, _ => []
  | n + 1, h => h.extractLsb' 0 8 :: shiftOut n (shr32 h 8)

/-- `MemWrite(addr, n, v)` on the destination buffer: offsets `addr .. addr+n-1` get `v[7:0]`,
`v[15:8]`, ...; other offsets keep their contents (rule R21; spec/00_scope.md section 5). A buffer of
length `N` is a list of `N` bytes, the byte at offset `j` its element `j`. DESIGN CHOICE (log 18),
safe: rule R21 defines it for `addr + n <= N` only, and a word has 4 bytes; past the end of the buffer
this total function writes nothing, and for a byte number of 4 or more it writes 0. No command reaches
either. -/
def memWrite (buf : List Byte) (addr : Nat) : (n : Nat) → (v : Word) → List Byte
  | 0, _ => buf
  | n + 1, v => (memWrite buf addr n v).set (addr + n) (leByte v n)

end Sys2Proof.Machine
end

