-- ==== Sys2Proof/Machine/State.lean ====
section
/-! DEFINITION. The state of the block as plain data: spec/10_state.md rules R10 to R12 and R18, the
response of spec/30_encoding.md rules R42 to R45, the moves of spec/70_reset_and_hazards.md rule
R129. -/

namespace Sys2Proof.Machine

/-- The four statuses of a response (rule R42); their 2-bit values are `statusCode`. -/
inductive Status where
  /-- Code 0: the command completed. -/
  | ok
  /-- Code 1 (rule R101). -/
  | invalidSeed
  /-- Code 2 (rule R102). -/
  | notSeeded
  /-- Code 3 (rule R103). -/
  | illegalCommand
  deriving DecidableEq, Repr

/-- One response: the triple of rule R45, `(rsp_status, rsp_data, bytes of bs_data in order)`. -/
structure Response where
  status : Status
  data   : DWord
  bytes  : List Byte
  deriving DecidableEq, Repr

/-- Four 32-bit lanes, lane 0 first: the vector register `V` of rule R12 as a value. -/
structure Lanes where
  l0 : Word
  l1 : Word
  l2 : Word
  l3 : Word
  deriving DecidableEq, Repr

/-- The block and its two channels. `z1`, `z2`, `z3` are the words of rule R10 (in a `VECTOR` build
the lanes 0 to 2 of `V`), `pad` is lane 3 (rule R12; in a `SCALAR` build it does not exist, and
nothing reads or writes this field: log 6), `valid` is the flag of rule R11. `build` holds the build
parameters (log 5). `moves` are the host's moves not yet applied, the next one first (log 1), and
`delivered` the responses produced so far, oldest first (log 3). -/
structure State where
  z1        : Word
  z2        : Word
  z3        : Word
  pad       : Word
  valid     : Bool
  build     : Build
  moves     : List Move
  delivered : List Response
  deriving DecidableEq, Repr

/-- The machine right after reset (rule R18): `valid = 0`. The words are unspecified there; the zeros
are a DESIGN CHOICE (log 4), unsafe in principle, and no command reads them while `valid = 0`. -/
def State.reset : State where
  z1        := 0
  z2        := 0
  z3        := 0
  pad       := 0
  valid     := false
  build     := Config.resetBuild
  moves     := []
  delivered := []

/-- Reasons the MODEL stops with a fault: none, so there is no constructor. A fault of the spec is a
response after which the block goes on (rules R100, R104): a next state (log 11). -/
inductive Fault where
  deriving DecidableEq, Repr

/-- Reasons the MODEL refuses a command. -/
inductive Refusal where
  /-- Raised by `exec`'s arm of a command that has no meaning yet; safe. No arm raises it. -/
  | notModelled (mnemonic : String)
  deriving DecidableEq, Repr

end Sys2Proof.Machine
end

