-- ==== Sys2Proof/Machine/Flags.lean ====
section
/-! DEFINITION. The status values and the seed checks. The block has no condition codes (spec/10_state.md
rule R16): its one flag is `valid` (rule R11), its one status the response status (spec/30_encoding.md
rule R42), and its one validator `SeedValid` (spec/40_seeding.md rules R51, R52). -/

namespace Sys2Proof.Machine

/-- The seed minimum of `z1` (rules R5, R14). -/
def min1 : Word := 2

/-- The seed minimum of `z2` (rules R5, R14). -/
def min2 : Word := 8

/-- The seed minimum of `z3` (rules R5, R14). -/
def min3 : Word := 16

/-- `SeedValid(w1, w2, w3)`: all three at or above their minimums, unsigned (rule R52). -/
def seedValid (w1 w2 w3 : Word) : Bool :=
  decide (min1 ≤ w1) && decide (min2 ≤ w2) && decide (min3 ≤ w3)

/-- `Promote(s1, s2, s3)`: each word raised to its minimum (rule R51). -/
def promote (s1 s2 s3 : Word) : Word × Word × Word :=
  (umax32 s1 min1, umax32 s2 min2, umax32 s3 min3)

/-- The 2-bit value of a status on `rsp_status` (rule R42). -/
def statusCode : Status → BitVec 2
  | .ok => 0
  | .invalidSeed => 1
  | .notSeeded => 2
  | .illegalCommand => 3

end Sys2Proof.Machine
end

