-- ==== Sys2Proof/Machine/ScalarDatapath.lean ====
section
/-! DEFINITION. The scalar shift-xor engine: the component functions, the step and the output
(spec/41_scalar_engine.md rules R60 to R64), with the constants of spec/10_state.md rule R14. -/

namespace Sys2Proof.Machine

/-- `F1`, the update of `z1` (rule R60): mask, then shift left by 12; xor with the shifted feedback. -/
def f1 (z : Word) : Word :=
  xor32 (shl32 (and32 z 0xFFFFFFFE) 12) (shr32 (xor32 (shl32 z 13) z) 19)

/-- `F2`, the update of `z2` (rule R61). -/
def f2 (z : Word) : Word :=
  xor32 (shl32 (and32 z 0xFFFFFFF8) 4) (shr32 (xor32 (shl32 z 2) z) 25)

/-- `F3`, the update of `z3` (rule R62). -/
def f3 (z : Word) : Word :=
  xor32 (shl32 (and32 z 0xFFFFFFF0) 17) (shr32 (xor32 (shl32 z 3) z) 11)

/-- `Step(z1, z2, z3)`: each word from its own previous value (rule R63). -/
def wordStep (z1 z2 z3 : Word) : Word × Word × Word := (f1 z1, f2 z2, f3 z3)

/-- `Out(z1, z2, z3)`, the output of the words after the update (rule R64). -/
def wordsOut (z1 z2 z3 : Word) : Word := xor32 (xor32 z1 z2) z3

end Sys2Proof.Machine
end

