-- ==== Sys2Proof/Machine/VectorDatapath.lean ====
section
/-! DEFINITION. The 4-lane vector datapath (spec/42_vector_engine.md rules R75 to R80, R85) with the
constant vectors of spec/10_state.md rule R13. -/

namespace Sys2Proof.Machine

/-- `VMASK` (rule R13). -/
def vMask : Lanes := ⟨0xFFFFFFFE, 0xFFFFFFF8, 0xFFFFFFF0, 0x00000000⟩

/-- `VSHL1`, the left-shift-1 amounts (rule R13). -/
def vShl1 : Lanes := ⟨12, 4, 17, 0⟩

/-- `VSHL2`, the left-shift-2 amounts (rule R13). -/
def vShl2 : Lanes := ⟨13, 2, 3, 0⟩

/-- `VSHR`, the right-shift amounts (rule R13). -/
def vShr : Lanes := ⟨19, 25, 11, 0⟩

/-- One operation applied lane by lane; no lane reads another (rule R85). -/
def laneWise (op : Word → Word → Word) (a b : Lanes) : Lanes :=
  ⟨op a.l0 b.l0, op a.l1 b.l1, op a.l2 b.l2, op a.l3 b.l3⟩

/-- `VAND(A, B)` (rule R75). -/
def vAnd (a b : Lanes) : Lanes := laneWise and32 a b

/-- `VSLL(A, S)`: each lane shifted left by its own amount (rule R76). -/
def vSll (a s : Lanes) : Lanes := laneWise (fun x n => shl32 x n.toNat) a s

/-- `VSRL(A, S)`: each lane shifted right, logically, by its own amount (rule R77). -/
def vSrl (a s : Lanes) : Lanes := laneWise (fun x n => shr32 x n.toNat) a s

/-- `VXOR(A, B)` (rule R78). -/
def vXor (a b : Lanes) : Lanes := laneWise xor32 a b

/-- `HXOR3(A)`: lanes 0 to 2; the padding lane is no operand (rule R79). -/
def hXor3 (a : Lanes) : Word := xor32 (xor32 a.l0 a.l1) a.l2

/-- `VStep(V)`: the same formula on every lane; the second left shift acts on the unmasked `V`
(rule R80). -/
def vStep (v : Lanes) : Lanes :=
  let t1 := vAnd v vMask
  let t2 := vSll t1 vShl1
  let t3 := vSll v vShl2
  let t4 := vXor t3 v
  let t5 := vSrl t4 vShr
  vXor t2 t5

/-- `V` as a 128-bit value, lane `i` at bits `32i+31:32i` (rule R12). No rule depends on it. -/
def vBits (v : Lanes) : BitVec 128 := v.l3 ++ v.l2 ++ v.l1 ++ v.l0

end Sys2Proof.Machine
end

