-- ==== Sys2Proof/Machine/Ops.lean ====
section
/-! DEFINITION. The named operations over the state: reading and writing the words in either build,
one draw, producing a response, ending a command with a fault of the spec, the reset event. The spec
has no return from a fault (spec/60_exceptions.md rule R107: nothing is saved and nothing restored),
so there is no operation for one. -/

namespace Sys2Proof.Machine

/-- The words as the vector register `V` (rule R12: `z1`, `z2`, `z3` name its lanes). -/
def State.lanes (s : State) : Lanes := ⟨s.z1, s.z2, s.z3, s.pad⟩

/-- Write all four lanes of `V` (rule R12). -/
def State.setLanes (s : State) (v : Lanes) : State :=
  { s with z1 := v.l0, z2 := v.l1, z3 := v.l2, pad := v.l3 }

/-- Write the three words, in a build that has no padding lane (rule R10). -/
def State.setWords (s : State) (w : Word × Word × Word) : State :=
  { s with z1 := w.1, z2 := w.2.1, z3 := w.2.2 }

/-- Produce one response: the last thing a command does (rule R45). -/
def State.respond (s : State) (r : Response) : State :=
  { s with delivered := s.delivered ++ [r] }

/-- `raise <Fault>`: end the command with a fault. No state register is written, no byte is emitted,
the data are 0, and the block goes on to the next command (rule R100). -/
def State.raise (s : State) (f : Status) : State := s.respond ⟨f, 0, []⟩

/-- Load the words a seeding command has settled: in a `VECTOR` build all four lanes, with 0 in the
padding lane (rule R57), and set `valid` (rules R53, R54). -/
def State.seed (s : State) (w : Word × Word × Word) : State :=
  match s.build.engine with
  | .scalar => { s.setWords w with valid := true }
  | .vector => { s.setLanes ⟨w.1, w.2.1, w.2.2, 0⟩ with valid := true }

/-- The state after one draw: `Step` (rule R63) or `VStep` (rule R80), by the build. -/
def State.advance (s : State) : State :=
  match s.build.engine with
  | .scalar => s.setWords (wordStep s.z1 s.z2 s.z3)
  | .vector => s.setLanes (vStep s.lanes)

/-- The output of a state: the xor of its words (rule R64), or `HXOR3` of `V` (rule R79). -/
def State.output (s : State) : Word :=
  match s.build.engine with
  | .scalar => wordsOut s.z1 s.z2 s.z3
  | .vector => hXor3 s.lanes

/-- `Draw32()`, or `VDraw32()` in a `VECTOR` build: advance, then the output of the NEW words
(rules R64, R83). The commands that draw check `valid` first. -/
def State.draw32 (s : State) : State × Word := (s.advance, s.advance.output)

/-- The reset event (rules R18, R120): `valid` is 0 and the words are again as after reset, whatever
they were. It produces no response and takes back none; the build stays. -/
def State.resetEvent (s : State) : State :=
  { s with
    z1 := State.reset.z1, z2 := State.reset.z2, z3 := State.reset.z3, pad := State.reset.pad
    valid := State.reset.valid }

/-- The value on `rsp_status` for the latest response, if there is one (rules R42, R45). -/
def State.rspStatus (s : State) : Option (BitVec 2) :=
  s.delivered.getLast?.map fun r => statusCode r.status

end Sys2Proof.Machine
end

