-- ==== Sys2Proof/Machine/Accept.lean ====
section
/-! DEFINITION. Taking the host's next move and presenting a command word (spec/30_encoding.md rule
R45, spec/70_reset_and_hazards.md rule R129). -/

namespace Sys2Proof.Machine

/-- The state once the next move is taken from the host and before it has had its effect. -/
def State.takeMove (s : State) : State := { s with moves := s.moves.tail }

/-- The host presents the command word `w` as its next move; the moves it had are kept behind it. -/
def State.present (s : State) (w : CmdWord) : State := { s with moves := .cmd w :: s.moves }

/-- The effect of a word with a reserved opcode: the fault `IllegalCommand` (rule R103). -/
def State.rejectWord (s : State) (_ : Reject) : State := s.raise .illegalCommand

/-- What the block reads from a command word it accepts (rule R36), with its own `LEN_W`. -/
def State.decodeWord (s : State) (w : CmdWord) : Except Reject Instr := decode s.build w

end Sys2Proof.Machine
end

