-- ==== Sys2Proof/Machine/Draws.lean ====
section
/-! DEFINITION. The commands `NEXT32` and `NEXT64` (spec/41_scalar_engine.md rules R65, R66). -/

namespace Sys2Proof.Machine

/-- `NEXT32` (rule R65): one draw, zero-extended to the data port (rule R43). -/
def execNext32 (s : State) : Host.Outcome State Fault Refusal :=
  if s.valid then
    let d := s.draw32
    .next (d.1.respond ⟨.ok, d.2.setWidth 64, []⟩)
  else
    .next (s.raise .notSeeded)

/-- `NEXT64` (rule R66): two draws, the first in the high half. `valid` is checked once, before the
first draw. -/
def execNext64 (s : State) : Host.Outcome State Fault Refusal :=
  if s.valid then
    let a := s.draw32
    let b := a.1.draw32
    .next (b.1.respond ⟨.ok, a.2 ++ b.2, []⟩)
  else
    .next (s.raise .notSeeded)

end Sys2Proof.Machine
end

