-- ==== Sys2Proof/Machine/Emission.lean ====
section
/-! DEFINITION. The Byte Emission Layer: `FILL` and the 32-to-byte shifter (spec/43_byte_emission.md
rules R90 to R95). -/

namespace Sys2Proof.Machine

/-- `ceil(N/4)`, the number of draws of `FILL N` (rules R92, R95). -/
def drawsFor (n : Nat) : Nat := (n + 3) / 4

/-- `d` draws for `n` bytes still wanted: each draw loads the shifter, which emits four bytes or, for
the final partial chunk, as many as are wanted; the rest of that draw is discarded (rules R91, R94).
-/
def fillChunks : (d n : Nat) → State → State × List Byte
  | 0, _, s => (s, [])
  | d + 1, n, s =>
    let w := s.draw32
    let rest := fillChunks d (n - 4) w.1
    (rest.1, shiftOut (min 4 n) w.2 ++ rest.2)

/-- `FILL N` (rule R92): `ceil(N/4)` draws, `N` bytes, little-endian, in draw order. `valid` is checked
once, whatever `N` is. -/
def execFill (n : Nat) (s : State) : Host.Outcome State Fault Refusal :=
  if s.valid then
    let f := fillChunks (drawsFor n) n s
    .next (f.1.respond ⟨.ok, 0, f.2⟩)
  else
    .next (s.raise .notSeeded)

/-- The loop of rule R92's pseudocode on a destination buffer of `n` bytes, with `d` iterations left
from iteration `i`: draw `w`, then `MemWrite(4i, min(4, N - 4i), w)`. -/
def fillBuffer : (d i n : Nat) → List Byte → State → State × List Byte
  | 0, _, _, buf, s => (s, buf)
  | d + 1, i, n, buf, s =>
    let w := s.draw32
    fillBuffer d (i + 1) n (memWrite buf (4 * i) (min 4 (n - 4 * i)) w.2) w.1

end Sys2Proof.Machine
end

