-- ==== Sys2Proof/Machine/Seeding.lean ====
section
/-! DEFINITION. The Seeding Layer: `SEEDB` and `SEEDW` (spec/40_seeding.md rules R53, R54). -/

namespace Sys2Proof.Machine

/-- `SEEDB` (rule R53): the three little-endian words of the twelve bytes, each promoted to its
minimum. It never faults and reads no state. -/
def execSeedb (b : Vector Byte 12) (s : State) : Host.Outcome State Fault Refusal :=
  let w := seedWords b
  .next ((s.seed (promote w.1 w.2.1 w.2.2)).respond ⟨.ok, 0, []⟩)

/-- `SEEDW` (rule R54): the three words verbatim if all are at or above their minimums, else the fault
`InvalidSeed` and no change. It does not read `valid` (rule R106). -/
def execSeedw (seed1 seed2 seed3 : Word) (s : State) : Host.Outcome State Fault Refusal :=
  if seedValid seed1 seed2 seed3 then
    .next ((s.seed (seed1, seed2, seed3)).respond ⟨.ok, 0, []⟩)
  else
    .next (s.raise .invalidSeed)

end Sys2Proof.Machine
end

