-- ==== Sys2Proof/Machine/Dispatch.lean ====
section
/-! DEFINITION. The meaning of each command, one arm per row of spec/opcode_table.json. -/

namespace Sys2Proof.Machine

def exec (i : Instr) (s : State) : Host.Outcome State Fault Refusal :=
  match i with
  | .seedb b => Sys2Proof.Machine.execSeedb b s
  | .seedw seed1 seed2 seed3 => Sys2Proof.Machine.execSeedw seed1 seed2 seed3 s
  | .next32 => Sys2Proof.Machine.execNext32 s
  | .next64 => Sys2Proof.Machine.execNext64 s
  | .fill n => Sys2Proof.Machine.execFill n s

end Sys2Proof.Machine
end

