-- ==== Sys2Proof/Machine/Step.lean ====
section
/-! DEFINITION. One step: the block performs the host's next move (spec/70_reset_and_hazards.md rule
R129). With no move left the run is over and the block stays as it is (log 2). -/

namespace Sys2Proof.Machine

/-- The step function of rule R129: `Reset` resets, `Cmd(w)` performs the command `w[98:96]` selects. -/
def step (s : State) : Host.Outcome State Fault Refusal :=
  match s.moves with
  | [] => .next s
  | .reset :: _ => .next s.takeMove.resetEvent
  | .cmd w :: _ =>
    match s.decodeWord w with
    | .ok i => exec i s.takeMove
    | .error e => .next (s.takeMove.rejectWord e)

/-- The state in which the very next step takes the table word `w`: the host presents it (log 12). -/
def State.withFetchWord (s : State) (nbits w : Nat) : State := s.present (cmdWordOfTable nbits w)

end Sys2Proof.Machine
end

