-- ==== Sys2Proof/Safety.lean ====
section
/-! DEFINITION. The terms claims are stated in: the invariant of the block, what a host can tell apart,
which bits of the words are live, and runs of commands. Nothing here is part of the machine. -/

namespace Sys2Proof

/-- The command is one of the two that seed. -/
def Instr.seeds : Instr → Bool
  | .seedb _ | .seedw _ _ _ => true
  | .next32 | .next64 | .fill _ => false

/-- The number of draws a command makes on a seeded block (spec/41_scalar_engine.md rules R65, R66,
spec/43_byte_emission.md rule R95). -/
def Instr.draws : Instr → Nat
  | .seedb _ | .seedw _ _ _ => 0
  | .next32 => 1
  | .next64 => 2
  | .fill n => (n + 3) / 4

end Sys2Proof

namespace Sys2Proof.Machine

/-- A response has the form spec/30_encoding.md rules R43 and R44 give it: a fault carries no data and
no bytes, and a response with bytes (a `FILL`) carries no data. -/
abbrev Response.wf (r : Response) : Prop :=
  (r.status ≠ .ok → r.data = 0 ∧ r.bytes = []) ∧ (r.bytes ≠ [] → r.data = 0)

/-- The words are at or above the seed minimums (spec/10_state.md rule R17). -/
abbrev State.aboveMinimums (s : State) : Prop :=
  2 ≤ s.z1.toNat ∧ 8 ≤ s.z2.toNat ∧ 16 ≤ s.z3.toNat

/-- The invariant of the block. The build is one rule R6 allows; a seeded block is above its minimums
(rules R17, R69); in a `VECTOR` build a seeded block has a zero padding lane (rule R12); every
response delivered has the form of rules R43 and R44. -/
abbrev State.Inv (s : State) : Prop :=
  s.build.wf = true ∧
  (s.valid = true → s.aboveMinimums) ∧
  (s.valid = true → s.build.engine = .vector → s.pad = 0) ∧
  ∀ r ∈ s.delivered, r.wf

/-- Two states a host cannot tell apart, now or later: the same length width, the same moves to come,
the same responses so far, the same flag and, if the block is seeded, the same three words. The engine
and the padding lane are left out (spec/42_vector_engine.md rules R82, R84), and so are the words of an
unseeded block (spec/10_state.md rule R18). -/
abbrev State.SameToHost (s t : State) : Prop :=
  s.build.lenW = t.build.lenW ∧ s.moves = t.moves ∧ s.delivered = t.delivered ∧
  s.valid = t.valid ∧ (s.valid = true → s.z1 = t.z1 ∧ s.z2 = t.z2 ∧ s.z3 = t.z3)

/-- The words agree on their live bits: all but bit 0 of `z1`, bits 2:0 of `z2`, bits 3:0 of `z3`
(spec/41_scalar_engine.md rule R68). -/
abbrev State.SameLiveBits (s t : State) : Prop :=
  s.z1 >>> 1 = t.z1 >>> 1 ∧ s.z2 >>> 3 = t.z2 >>> 3 ∧ s.z3 >>> 4 = t.z3 >>> 4

/-- A list of commands performed one after another; `none` if one of them stops the model. -/
def runCommands : List Instr → State → Option State
  | [], s => some s
  | i :: is, s =>
    match exec i s with
    | .next t => runCommands is t
    | .fault _ => none
    | .refused _ => none

/-- The value of four bytes of a seed, little-endian, the byte at `addr` first (spec/20_memory.md rule
R23). -/
def leValue (b : Vector Byte 12) (addr : Nat) (h : addr + 3 < 12 := by decide) : Nat :=
  b[addr].toNat + b[addr + 1].toNat * 2 ^ 8 + b[addr + 2].toNat * 2 ^ 16 + b[addr + 3].toNat * 2 ^ 24

/-- The number in the opcode bits of a command word (spec/30_encoding.md rule R35). -/
def opNumber (w : CmdWord) : Nat := w.toNat / 2 ^ 96

/-- Which bits of its command word a command uses (spec/30_encoding.md rules R35, R37 to R40): the
opcode always, the payload as the command needs. -/
def usesBit (b : Build) (i : Instr) (k : Nat) : Bool :=
  decide (96 ≤ k) ||
    match i with
    | .seedb _ | .seedw _ _ _ => true
    | .next32 | .next64 => false
    | .fill _ => decide (k < b.lenW)

/-- `n` applications of a component function. -/
def iterate (f : Word → Word) : Nat → Word → Word
  | 0, z => z
  | n + 1, z => iterate f n (f z)

/-- What the data and the bytes of a response to a command may be (spec/30_encoding.md rules R43, R44):
only the two word draws carry data, only a `FILL` carries bytes, and those are as many as it asks for.
-/
def Response.fits (r : Response) (valid : Bool) : Instr → Prop
  | .seedb _ | .seedw _ _ _ => r.data = 0 ∧ r.bytes = []
  | .next32 => r.data.toNat < 2 ^ 32 ∧ r.bytes = [] ∧ (valid = false → r.data = 0)
  | .next64 => r.bytes = [] ∧ (valid = false → r.data = 0)
  | .fill n => r.data = 0 ∧ r.bytes.length = if valid then n else 0

/-- The status the table of spec/60_exceptions.md rule R104 gives a command on a block whose flag is
`valid`. -/
def statusOf (valid : Bool) : Instr → Status
  | .seedb _ => .ok
  | .seedw s1 s2 s3 =>
    if s1.toNat < 2 ∨ s2.toNat < 8 ∨ s3.toNat < 16 then .invalidSeed else .ok
  | .next32 | .next64 | .fill _ => if valid then .ok else .notSeeded

end Sys2Proof.Machine
end

