-- ==== Sys2Proof/Certificates/Slice0/Obligations.lean ====
section
/-! DEFINITION. The statements for the provers. Each docstring names the rules of spec/ it formalises.
Where a statement rests on a choice of the model, its docstring names the log entry. -/

section

open Sys2Proof Sys2Proof.Machine

/-! ### Command words: spec/30_encoding.md -/

/-- Rules R35 to R40: on every build rule R6 allows, every command the build can encode is read back
from its command word, with every operand. -/
def Obligations.DecodeOfEncode : Prop :=
  ∀ (b : Build) (i : Instr), b.wf = true → i.wf b = true → decode b (encode i) = .ok i

/-- Rules R35 to R40 and R46: what a word decodes to is well formed, and encoding it again gives the
word's own bits wherever the command uses them and 0 wherever it ignores them. -/
def Obligations.EncodeOfDecode : Prop :=
  ∀ (b : Build) (w : CmdWord) (i : Instr), b.wf = true → decode b w = .ok i →
    i.wf b = true ∧
    ∀ k, k < 99 → (encode i).getLsbD k = (usesBit b i k && w.getLsbD k)

/-- Rule R36, the opcode map, in both its forms: bits 98:96 select the command, and the command is the
one whose `match` the masked word equals. Opcodes 0, 6 and 7 are no command (rule R41). -/
def Obligations.OpcodeMap : Prop :=
  ∀ (b : Build) (w : CmdWord),
    (w &&& 0x7000000000000000000000000#99).toNat = opNumber w * 2 ^ 96 ∧
    (opNumber w = 1 ↔ ∃ x, decode b w = .ok (.seedb x)) ∧
    (opNumber w = 2 ↔ ∃ x y z, decode b w = .ok (.seedw x y z)) ∧
    (opNumber w = 3 ↔ decode b w = .ok .next32) ∧
    (opNumber w = 4 ↔ decode b w = .ok .next64) ∧
    (opNumber w = 5 ↔ ∃ n, decode b w = .ok (.fill n)) ∧
    (opNumber w = 0 ∨ opNumber w = 6 ∨ opNumber w = 7 ↔ ∃ e, decode b w = .error e)

/-- Rule R37: seed byte `k` is `payload[8k+7:8k]`, so the three words are `payload[31:0]`,
`payload[63:32]`, `payload[95:64]`; every payload is legal. -/
def Obligations.SeedbPayload : Prop :=
  ∀ (b : Build) (w : CmdWord), opNumber w = 1 →
    ∃ x : Vector Byte 12, decode b w = .ok (.seedb x) ∧
      (∀ k : Fin 12, x[k].toNat = w.toNat / 2 ^ (8 * k.val) % 2 ^ 8) ∧
      (seedWords x).1.toNat = w.toNat % 2 ^ 32 ∧
      (seedWords x).2.1.toNat = w.toNat / 2 ^ 32 % 2 ^ 32 ∧
      (seedWords x).2.2.toNat = w.toNat / 2 ^ 64 % 2 ^ 32

/-- Rule R38: the three operand words of `SEEDW` are `payload[31:0]`, `payload[63:32]` and
`payload[95:64]`; values below the minimums decode like any other. -/
def Obligations.SeedwPayload : Prop :=
  ∀ (b : Build) (w : CmdWord), opNumber w = 2 →
    ∃ x y z : Word, decode b w = .ok (.seedw x y z) ∧
      x.toNat = w.toNat % 2 ^ 32 ∧
      y.toNat = w.toNat / 2 ^ 32 % 2 ^ 32 ∧
      z.toNat = w.toNat / 2 ^ 64 % 2 ^ 32

/-- Rule R39: the byte count of `FILL` is `payload[LEN_W-1:0]`, unsigned and unscaled, and the payload
bits from `LEN_W` up are ignored. -/
def Obligations.FillPayload : Prop :=
  ∀ (b : Build) (w : CmdWord), b.wf = true → opNumber w = 5 →
    decode b w = .ok (.fill (w.toNat % 2 ^ b.lenW))

/-- Rule R40: `NEXT32`, `NEXT64` and the reserved opcodes ignore the whole payload. -/
def Obligations.PayloadIgnored : Prop :=
  ∀ (b : Build) (w v : CmdWord), opNumber w = opNumber v →
    (opNumber w = 0 ∨ opNumber w = 3 ∨ opNumber w = 4 ∨ opNumber w = 6 ∨ opNumber w = 7) →
    decode b w = decode b v

/-- The nine rows of rule R47's table: each command encodes to the word of its row (rule R47), and on
every build rule R6 allows that word decodes to the command of its row (rules R36 to R40), for `FILL 7`
where 7 fits in `LEN_W` bits; and rule R47's reading of the first row. -/
def Obligations.WorkedEncodings : Prop :=
  (encode (.seedb #v[123, 0, 0, 0, 45, 1, 0, 0, 89, 2, 0, 0]) = 0x1000002590000012D0000007B ∧
    encode (.seedb #v[0, 0, 0, 0, 0, 0, 0, 0, 0, 0, 0, 0]) = 0x1000000000000000000000000 ∧
    encode (.seedw 123 301 601) = 0x2000002590000012D0000007B ∧
    encode (.seedw 1 8 16) = 0x2000000100000000800000001 ∧
    encode (.seedw 2 8 16) = 0x2000000100000000800000002 ∧
    encode .next32 = 0x3000000000000000000000000 ∧
    encode .next64 = 0x4000000000000000000000000 ∧
    encode (.fill 7) = 0x5000000000000000000000007 ∧
    encode (.fill 0) = 0x5000000000000000000000000) ∧
  (∀ b : Build, b.wf = true →
    decode b 0x1000002590000012D0000007B =
      .ok (.seedb #v[123, 0, 0, 0, 45, 1, 0, 0, 89, 2, 0, 0]) ∧
    decode b 0x1000000000000000000000000 =
      .ok (.seedb #v[0, 0, 0, 0, 0, 0, 0, 0, 0, 0, 0, 0]) ∧
    decode b 0x2000002590000012D0000007B = .ok (.seedw 123 301 601) ∧
    decode b 0x2000000100000000800000001 = .ok (.seedw 1 8 16) ∧
    decode b 0x2000000100000000800000002 = .ok (.seedw 2 8 16) ∧
    decode b 0x3000000000000000000000000 = .ok .next32 ∧
    decode b 0x4000000000000000000000000 = .ok .next64 ∧
    (7 < 2 ^ b.lenW → decode b 0x5000000000000000000000007 = .ok (.fill 7)) ∧
    decode b 0x5000000000000000000000000 = .ok (.fill 0)) ∧
  payloadField 0x1000002590000012D0000007B = 0x000002590000012D0000007B ∧
  payloadByte (payloadField 0x1000002590000012D0000007B) 4 = 0x2D ∧
  payloadByte (payloadField 0x1000002590000012D0000007B) 5 = 1 ∧
  payloadWord (payloadField 0x1000002590000012D0000007B) 1 = 301

/-! ### Steps: spec/70_reset_and_hazards.md -/

/-- Rule R129, the `Cmd` case: with a command word next that decodes to `i`, a step takes the word and
is `exec i`. -/
def Obligations.StepRunsDecodedCommand : Prop :=
  ∀ (s : State) (w : CmdWord) (ms : List Move) (i : Instr),
    s.moves = .cmd w :: ms → decode s.build w = .ok i →
    step s = exec i { s with moves := ms }

/-- A word presented with `withFetchWord` is the very next command: the step runs what the decoder
reads from it on the state as it was (the model's own statement, log 12). -/
def Obligations.PresentedWordRunsNext : Prop :=
  ∀ (s : State) (nbits w : Nat) (i : Instr),
    decode s.build (BitVec.ofNat 99 (w % 2 ^ nbits)) = .ok i →
    step (s.withFetchWord nbits w) = exec i s

/-- Rules R41 and R103: a word with opcode 0, 6 or 7, whatever its payload and whatever `valid`, is
answered with `IllegalCommand` (code 3), no data and no bytes, and changes nothing else; and no other
word is answered so. -/
def Obligations.ReservedOpcodeIsIllegalCommand : Prop :=
  (∀ (s : State) (w : CmdWord) (ms : List Move), s.moves = .cmd w :: ms →
    (opNumber w = 0 ∨ opNumber w = 6 ∨ opNumber w = 7) →
    ∃ t, step s = .next t ∧ t.rspStatus = some 3 ∧
      t = { s with moves := ms, delivered := s.delivered ++ [⟨.illegalCommand, 0, []⟩] }) ∧
  (∀ (s : State) (w : CmdWord) (ms : List Move), s.moves = .cmd w :: ms →
    (1 ≤ opNumber w ∧ opNumber w ≤ 5) →
    ∃ t r, step s = .next t ∧ t.delivered = s.delivered ++ [r] ∧ r.status ≠ .illegalCommand)

/-- Rule R120: the reset event clears `valid`, produces no response and takes back none, and what it
leaves does not depend on the words, the padding lane or the flag there were before. -/
def Obligations.ResetEvent : Prop :=
  ∀ (s : State) (ms : List Move) (z1 z2 z3 p : Word) (v : Bool), s.moves = .reset :: ms →
    ∃ t, step s = .next t ∧ t.valid = false ∧ t.delivered = s.delivered ∧ t.moves = ms ∧
      t.build = s.build ∧
      step { s with z1 := z1, z2 := z2, z3 := z3, pad := p, valid := v } = .next t

/-- With no move left the run is over: a step changes nothing (rule R129 says the block never acts of
its own accord; that the model's step then answers the same state is its own choice, log 2). -/
def Obligations.NoMoveChangesNothing : Prop :=
  ∀ s : State, s.moves = [] → step s = .next s

/-- Rules R45 and R129: for every state and every move a step answers a next state and never stops the
model; it takes the move, keeps every response delivered before, and a command produces exactly one
response while a reset produces none (rule R120). The build is fixed (rule R4) and the step keeps it,
in the field log 5 chose for it. That a state with no move left also has a next state, with no response,
is not rule R129's: it is the model's own, log 2. The lists of moves and of responses are logs 1 and 3. -/
def Obligations.StepIsTotal : Prop :=
  ∀ s : State, ∃ t rs, step s = .next t ∧ t.moves = s.moves.tail ∧ t.build = s.build ∧
    t.delivered = s.delivered ++ rs ∧
    ((∃ w ms, s.moves = .cmd w :: ms) → rs.length = 1) ∧
    ((∃ ms, s.moves = .reset :: ms) ∨ s.moves = [] → rs = [])

/-- Rule R11: `valid` goes from 0 to 1 only by a seeding command, answered `OK`, and from 1 to 0 only by
reset. -/
def Obligations.ValidFlagChanges : Prop :=
  ∀ s t : State, step s = .next t →
    (s.valid = false → t.valid = true →
      ∃ w ms i, s.moves = .cmd w :: ms ∧ decode s.build w = .ok i ∧ i.seeds = true ∧
        statusOf s.valid i = .ok) ∧
    (s.valid = true → t.valid = false → ∃ ms, s.moves = .reset :: ms)

/-- Rule R18 and R102: right after reset `valid` is 0, and each of the three drawing commands, whatever
its payload, is answered with `NotSeeded`. -/
def Obligations.UnseededAfterReset : Prop :=
  State.reset.valid = false ∧
  ∀ w : CmdWord, (opNumber w = 3 ∨ opNumber w = 4 ∨ opNumber w = 5) →
    ∃ t, step (State.reset.present w) = .next t ∧ t.valid = false ∧ t.rspStatus = some 2

/-! ### Invariants and what a host can tell apart -/

/-- The invariant of the block holds right after reset (rules R12, R17, R18; the build is log 5). -/
def Obligations.InvariantAtReset : Prop := State.reset.Inv

/-- Rules R12, R17, R43, R44 and R69: every step keeps the invariant, from every state that has it. -/
def Obligations.StepKeepsInvariant : Prop :=
  ∀ s t : State, s.Inv → step s = .next t → t.Inv

/-- Rules R18, R72, R82 and R84: states a host cannot tell apart step to states it cannot tell apart.
Neither the engine, nor the padding lane, nor the words of an unseeded block reach a response. -/
def Obligations.StepKeepsHostView : Prop :=
  ∀ s t : State, s.SameToHost t →
    ∃ s' t', step s = .next s' ∧ step t = .next t' ∧ s'.SameToHost t'

/-- Rules R82 and R84: over any number of steps from any state, the two builds deliver the same
responses and, while seeded, hold the same words, whatever the padding lane held. Two clauses are the
model's choice and not these rules': that the words agree on an unseeded block too, which after a reset
event holds by the zeros of log 4 (rule R18 gives the words no value there), and that a run longer than
the moves goes on without change, log 2. -/
def Obligations.EnginesAgreeOnEveryRun : Prop :=
  ∀ (k : Nat) (s : State) (p : Word), ∃ t u : State,
    Host.Core.run Sys2Proof.core k { s with build := { s.build with engine := .scalar } } = .next t ∧
    Host.Core.run Sys2Proof.core k
      { s with build := { s.build with engine := .vector }, pad := p } = .next u ∧
    t.delivered = u.delivered ∧ t.valid = u.valid ∧ t.moves = u.moves ∧
    t.z1 = u.z1 ∧ t.z2 = u.z2 ∧ t.z3 = u.z3

/-- Rules R19 and R72: after a seeding command that succeeds, every later response is a function of the
seeding command and the commands after it alone, on any two blocks in any two states. -/
def Obligations.SeedDeterminesResponses : Prop :=
  ∀ (s t : State) (i : Instr) (is : List Instr), i.seeds = true → statusOf s.valid i = .ok →
    ∃ s' t' rs, runCommands (i :: is) s = some s' ∧ runCommands (i :: is) t = some t' ∧
      s'.delivered = s.delivered ++ rs ∧ t'.delivered = t.delivered ++ rs ∧
      s'.z1 = t'.z1 ∧ s'.z2 = t'.z2 ∧ s'.z3 = t'.z3 ∧ s'.valid = true ∧ t'.valid = true

/-! ### Primitives and the scalar engine: spec/00_scope.md, spec/41_scalar_engine.md -/

/-- Rules R7, R8 and R9, the primitives: bit by bit, as numbers for every shift amount the rules give a
meaning, and as unsigned comparison. -/
def Obligations.Primitives : Prop :=
  (∀ (a b : Word) (i : Nat), (and32 a b).getLsbD i = (a.getLsbD i && b.getLsbD i) ∧
    (xor32 a b).getLsbD i = (a.getLsbD i ^^ b.getLsbD i)) ∧
  (∀ (a : Word) (n : Nat), n ≤ 31 →
    (shl32 a n).toNat = a.toNat * 2 ^ n % 2 ^ 32 ∧ (shr32 a n).toNat = a.toNat / 2 ^ n) ∧
  (∀ a b : Word, (umax32 a b).toNat = max a.toNat b.toNat)

/-- Rule R60: the formula of `F1`, its reading bit by bit, and its example with every step. -/
def Obligations.ComponentOne : Prop :=
  (∀ z : Word, f1 z = ((z &&& 0xFFFFFFFE#32) <<< 12) ^^^ (((z <<< 13) ^^^ z) >>> 19)) ∧
  (∀ (z : Word) (i : Nat), 13 ≤ i → i ≤ 31 → (f1 z).getLsbD i = z.getLsbD (i - 12)) ∧
  (∀ (z : Word) (i : Nat), i ≤ 12 → (f1 z).getLsbD i = (z.getLsbD (i + 19) ^^ z.getLsbD (i + 6))) ∧
  (123#32 &&& 0xFFFFFFFE = 0x7A ∧ 0x7A#32 <<< 12 = 0x0007A000 ∧ 123#32 <<< 13 = 0x000F6000 ∧
    0x000F6000#32 ^^^ 123 = 0x000F607B ∧ 0x000F607B#32 >>> 19 = 1 ∧ f1 123 = 0x0007A001)

/-- Rule R61: the formula of `F2`, its reading bit by bit, and its example with every step. -/
def Obligations.ComponentTwo : Prop :=
  (∀ z : Word, f2 z = ((z &&& 0xFFFFFFF8#32) <<< 4) ^^^ (((z <<< 2) ^^^ z) >>> 25)) ∧
  (∀ (z : Word) (i : Nat), 7 ≤ i → i ≤ 31 → (f2 z).getLsbD i = z.getLsbD (i - 4)) ∧
  (∀ (z : Word) (i : Nat), i ≤ 6 → (f2 z).getLsbD i = (z.getLsbD (i + 25) ^^ z.getLsbD (i + 23))) ∧
  (301#32 &&& 0xFFFFFFF8 = 0x128 ∧ 0x128#32 <<< 4 = 0x00001280 ∧ 301#32 <<< 2 = 0x000004B4 ∧
    0x000004B4#32 ^^^ 301 = 0x00000599 ∧ 0x00000599#32 >>> 25 = 0 ∧ f2 301 = 0x00001280)

/-- Rule R62: the formula of `F3`, its reading bit by bit, and its example with every step. -/
def Obligations.ComponentThree : Prop :=
  (∀ z : Word, f3 z = ((z &&& 0xFFFFFFF0#32) <<< 17) ^^^ (((z <<< 3) ^^^ z) >>> 11)) ∧
  (∀ (z : Word) (i : Nat), 21 ≤ i → i ≤ 31 → (f3 z).getLsbD i = z.getLsbD (i - 17)) ∧
  (∀ (z : Word) (i : Nat), i ≤ 20 → (f3 z).getLsbD i = (z.getLsbD (i + 11) ^^ z.getLsbD (i + 8))) ∧
  (601#32 &&& 0xFFFFFFF0 = 0x250 ∧ 0x250#32 <<< 17 = 0x04A00000 ∧ 601#32 <<< 3 = 0x000012C8 ∧
    0x000012C8#32 ^^^ 601 = 0x00001091 ∧ 0x00001091#32 >>> 11 = 2 ∧ f3 601 = 0x04A00002)

/-- Rule R67 item (5): in each formula the two terms share no bit, so the final xor is an or. -/
def Obligations.TermsAreDisjoint : Prop :=
  ∀ z : Word,
    ((z &&& 0xFFFFFFFE#32) <<< 12) &&& (((z <<< 13) ^^^ z) >>> 19) = 0 ∧
    f1 z = ((z &&& 0xFFFFFFFE#32) <<< 12) ||| (((z <<< 13) ^^^ z) >>> 19) ∧
    ((z &&& 0xFFFFFFF8#32) <<< 4) &&& (((z <<< 2) ^^^ z) >>> 25) = 0 ∧
    f2 z = ((z &&& 0xFFFFFFF8#32) <<< 4) ||| (((z <<< 2) ^^^ z) >>> 25) ∧
    ((z &&& 0xFFFFFFF0#32) <<< 17) &&& (((z <<< 3) ^^^ z) >>> 11) = 0 ∧
    f3 z = ((z &&& 0xFFFFFFF0#32) <<< 17) ||| (((z <<< 3) ^^^ z) >>> 11)

/-- Section 5 of spec/41_scalar_engine.md: each component function is linear over GF(2). -/
def Obligations.ComponentsAreLinear : Prop :=
  ∀ a b : Word, f1 (a ^^^ b) = f1 a ^^^ f1 b ∧ f2 (a ^^^ b) = f2 a ^^^ f2 b ∧
    f3 (a ^^^ b) = f3 a ^^^ f3 b

/-- Rule R68: no component function depends on its dead bits; states whose words differ in dead bits only, and are alike otherwise, answer every command
alike and stay so; after a draw their words are the same; and `(2, 8, 16)` and `(3, 15, 31)` are such
words. -/
def Obligations.DeadBitsNeverMatter : Prop :=
  (∀ y z : Word, (y >>> 1 = z >>> 1 → f1 y = f1 z) ∧ (y >>> 3 = z >>> 3 → f2 y = f2 z) ∧
    (y >>> 4 = z >>> 4 → f3 y = f3 z)) ∧
  (∀ (s t : State) (i : Instr), s.SameLiveBits t →
    t = { s with z1 := t.z1, z2 := t.z2, z3 := t.z3 } →
    ∃ s' t', exec i s = .next s' ∧ exec i t = .next t' ∧ s'.SameLiveBits t' ∧
      t' = { s' with z1 := t'.z1, z2 := t'.z2, z3 := t'.z3 } ∧
      (s.valid = true → i.seeds = false → 1 ≤ i.draws → s' = t')) ∧
  (∀ s : State,
    State.SameLiveBits { s with z1 := 2, z2 := 8, z3 := 16 } { s with z1 := 3, z2 := 15, z3 := 31 })

/-- Rule R69: a word at or above its minimum stays so, a word below it becomes 0, and on the live bits
each component function is one to one and onto. -/
def Obligations.MinimumsArePreserved : Prop :=
  (∀ z : Word, (2 ≤ z.toNat → 2 ≤ (f1 z).toNat) ∧ (8 ≤ z.toNat → 8 ≤ (f2 z).toNat) ∧
    (16 ≤ z.toNat → 16 ≤ (f3 z).toNat)) ∧
  (∀ z : Word, (z.toNat < 2 → f1 z = 0) ∧ (z.toNat < 8 → f2 z = 0) ∧ (z.toNat < 16 → f3 z = 0)) ∧
  (∀ y z : Word, (f1 y >>> 1 = f1 z >>> 1 → y >>> 1 = z >>> 1) ∧
    (f2 y >>> 3 = f2 z >>> 3 → y >>> 3 = z >>> 3) ∧
    (f3 y >>> 4 = f3 z >>> 4 → y >>> 4 = z >>> 4)) ∧
  (∀ y : Word, (∃ z, f1 z >>> 1 = y >>> 1) ∧ (∃ z, f2 z >>> 3 = y >>> 3) ∧
    (∃ z, f3 z >>> 4 = y >>> 4))

/-- Rule R70, the return: on the live bits each component function returns to where it started after
the number of steps the rule gives. (That it does not return before is not stated here.) -/
def Obligations.ComponentsReturn : Prop :=
  ∀ z : Word, iterate f1 (2 ^ 31 - 1) z >>> 1 = z >>> 1 ∧
    iterate f2 (2 ^ 29 - 1) z >>> 3 = z >>> 3 ∧
    iterate f3 (2 ^ 28 - 1) z >>> 4 = z >>> 4

/-- Rule R71: three `NEXT32` on a seeded block are all answered 0 exactly when every live bit of its
words is 0, which the minimums exclude; so of three consecutive draws of a block above its minimums one
is not 0. -/
def Obligations.ThreeDrawsAreNotAllZero : Prop :=
  ∀ s : State, s.valid = true →
    ∃ t a b c, runCommands [.next32, .next32, .next32] s = some t ∧
      t.delivered = s.delivered ++ [⟨.ok, a, []⟩, ⟨.ok, b, []⟩, ⟨.ok, c, []⟩] ∧
      (a = 0 ∧ b = 0 ∧ c = 0 ↔ s.z1 >>> 1 = 0 ∧ s.z2 >>> 3 = 0 ∧ s.z3 >>> 4 = 0) ∧
      (s.aboveMinimums → a ≠ 0 ∨ b ≠ 0 ∨ c ≠ 0)

/-! ### The vector engine: spec/42_vector_engine.md -/

/-- Rules R75 to R79, with the constant vectors of rule R13: the lane operations, lane by lane as numbers or bits, for every shift amount the
rules give a meaning; `HXOR3` leaves lane 3 out. -/
def Obligations.LaneOperations : Prop :=
  (vMask = ⟨0xFFFFFFFE, 0xFFFFFFF8, 0xFFFFFFF0, 0⟩ ∧ vShl1 = ⟨12, 4, 17, 0⟩ ∧
    vShl2 = ⟨13, 2, 3, 0⟩ ∧ vShr = ⟨19, 25, 11, 0⟩) ∧
  (∀ (a b : Lanes) (i : Nat),
    (vAnd a b).l0.getLsbD i = (a.l0.getLsbD i && b.l0.getLsbD i) ∧
    (vAnd a b).l1.getLsbD i = (a.l1.getLsbD i && b.l1.getLsbD i) ∧
    (vAnd a b).l2.getLsbD i = (a.l2.getLsbD i && b.l2.getLsbD i) ∧
    (vAnd a b).l3.getLsbD i = (a.l3.getLsbD i && b.l3.getLsbD i) ∧
    (vXor a b).l0.getLsbD i = (a.l0.getLsbD i ^^ b.l0.getLsbD i) ∧
    (vXor a b).l1.getLsbD i = (a.l1.getLsbD i ^^ b.l1.getLsbD i) ∧
    (vXor a b).l2.getLsbD i = (a.l2.getLsbD i ^^ b.l2.getLsbD i) ∧
    (vXor a b).l3.getLsbD i = (a.l3.getLsbD i ^^ b.l3.getLsbD i) ∧
    (hXor3 a).getLsbD i = (a.l0.getLsbD i ^^ a.l1.getLsbD i ^^ a.l2.getLsbD i)) ∧
  (∀ a n : Lanes, n.l0.toNat ≤ 31 → n.l1.toNat ≤ 31 → n.l2.toNat ≤ 31 → n.l3.toNat ≤ 31 →
    (vSll a n).l0.toNat = a.l0.toNat * 2 ^ n.l0.toNat % 2 ^ 32 ∧
    (vSll a n).l1.toNat = a.l1.toNat * 2 ^ n.l1.toNat % 2 ^ 32 ∧
    (vSll a n).l2.toNat = a.l2.toNat * 2 ^ n.l2.toNat % 2 ^ 32 ∧
    (vSll a n).l3.toNat = a.l3.toNat * 2 ^ n.l3.toNat % 2 ^ 32 ∧
    (vSrl a n).l0.toNat = a.l0.toNat / 2 ^ n.l0.toNat ∧
    (vSrl a n).l1.toNat = a.l1.toNat / 2 ^ n.l1.toNat ∧
    (vSrl a n).l2.toNat = a.l2.toNat / 2 ^ n.l2.toNat ∧
    (vSrl a n).l3.toNat = a.l3.toNat / 2 ^ n.l3.toNat)

/-- Rule R81: the vector step zeroes the padding lane whatever it held, and no other lane of the result
depends on it. -/
def Obligations.PaddingLaneIsZeroed : Prop :=
  (∀ v : Lanes, (vStep v).l3 = 0) ∧
  (∀ (v : Lanes) (p : Word), vStep { v with l3 := p } = vStep v) ∧
  vStep ⟨123, 301, 601, 0xDEADBEEF⟩ = ⟨0x0007A001, 0x00001280, 0x04A00002, 0⟩

/-- Rule R82: lane by lane the vector step is the scalar step, and its horizontal xor is the scalar
output. -/
def Obligations.VectorStepIsScalarStep : Prop :=
  ∀ a b c p : Word, vStep ⟨a, b, c, p⟩ = ⟨f1 a, f2 b, f3 c, 0⟩ ∧
    wordStep a b c = ((vStep ⟨a, b, c, p⟩).l0, (vStep ⟨a, b, c, p⟩).l1, (vStep ⟨a, b, c, p⟩).l2) ∧
    hXor3 (vStep ⟨a, b, c, p⟩) = wordsOut (f1 a) (f2 b) (f3 c)

/-- Rule R12: lane `i` of `V` is bits `32i+31:32i` of its 128-bit value. -/
def Obligations.LanePlacement : Prop :=
  ∀ v : Lanes, (vBits v).toNat =
    v.l0.toNat + v.l1.toNat * 2 ^ 32 + v.l2.toNat * 2 ^ 64 + v.l3.toNat * 2 ^ 96

/-! ### Seeding: spec/40_seeding.md -/

/-- Rules R50, R51, R53 and R57: on any state `SEEDB` completes with `OK`; each word is the greater of
its little-endian seed word and its minimum, `valid` is 1, the padding lane of a `VECTOR` build is 0,
and nothing else changes. -/
def Obligations.SeedbLoadsPromotedWords : Prop :=
  ∀ (b : Vector Byte 12) (s : State), ∃ t, exec (.seedb b) s = .next t ∧
    t.z1.toNat = max (leValue b 0) 2 ∧ t.z2.toNat = max (leValue b 4) 8 ∧
    t.z3.toNat = max (leValue b 8) 16 ∧ t.valid = true ∧
    t.pad = (if s.build.engine = .vector then 0 else s.pad) ∧
    t.build = s.build ∧ t.moves = s.moves ∧ t.delivered = s.delivered ++ [⟨.ok, 0, []⟩]

/-- Rules R52, R54 and R57: `SEEDW` with three words at or above their minimums completes with `OK` on
any state and stores them verbatim, sets `valid`, zeroes the padding lane of a `VECTOR` build and
changes nothing else; with any word below its minimum it is answered `InvalidSeed` and changes nothing.
-/
def Obligations.SeedwStoresOrRejects : Prop :=
  ∀ (w1 w2 w3 : Word) (s : State),
    (2 ≤ w1.toNat → 8 ≤ w2.toNat → 16 ≤ w3.toNat →
      exec (.seedw w1 w2 w3) s = .next { s with
        z1 := w1, z2 := w2, z3 := w3, valid := true
        pad := if s.build.engine = .vector then 0 else s.pad
        delivered := s.delivered ++ [⟨.ok, 0, []⟩] }) ∧
    (w1.toNat < 2 ∨ w2.toNat < 8 ∨ w3.toNat < 16 →
      exec (.seedw w1 w2 w3) s = .next { s with
        delivered := s.delivered ++ [⟨.invalidSeed, 0, []⟩] })

/-- Rule R101: `InvalidSeed` (code 1) is raised by `SEEDW` only, exactly when a word is below its
minimum. -/
def Obligations.InvalidSeedExactly : Prop :=
  statusCode .invalidSeed = 1 ∧
  ∀ (i : Instr) (s : State), ∃ t r, exec i s = .next t ∧ t.delivered = s.delivered ++ [r] ∧
    (r.status = .invalidSeed ↔ ∃ w1 w2 w3, i = .seedw w1 w2 w3 ∧
      (w1.toNat < 2 ∨ w2.toNat < 8 ∨ w3.toNat < 16))

/-- Rule R17: a seeding command that succeeds leaves a seeded block above its minimums, whatever the
state was. -/
def Obligations.SeedingEstablishesMinimums : Prop :=
  ∀ (i : Instr) (s : State), i.seeds = true → statusOf s.valid i = .ok →
    ∃ t, exec i s = .next t ∧ t.valid = true ∧ t.aboveMinimums

/-- Rule R55: for twelve bytes whose words meet the minimums, `SEEDB` and `SEEDW` write the same state
and give the same response. -/
def Obligations.SeedingDisciplinesAgree : Prop :=
  ∀ (b : Vector Byte 12) (w1 w2 w3 : Word) (s : State),
    w1.toNat = leValue b 0 → w2.toNat = leValue b 4 → w3.toNat = leValue b 8 →
    2 ≤ w1.toNat → 8 ≤ w2.toNat → 16 ≤ w3.toNat →
    ∃ t, exec (.seedb b) s = .next t ∧ exec (.seedw w1 w2 w3) s = .next t ∧
      t.z1 = w1 ∧ t.z2 = w2 ∧ t.z3 = w3

/-- Rule R56: the validator at the bit level: each word's live bits, those its mask keeps, are not all
zero. -/
def Obligations.ValidatorOnLiveBits : Prop :=
  ∀ w1 w2 w3 : Word,
    (2 ≤ w1.toNat ↔ w1.extractLsb' 1 31 ≠ 0) ∧ (8 ≤ w2.toNat ↔ w2.extractLsb' 3 29 ≠ 0) ∧
    (16 ≤ w3.toNat ↔ w3.extractLsb' 4 28 ≠ 0) ∧
    (seedValid w1 w2 w3 = true ↔
      w1 &&& 0xFFFFFFFE#32 ≠ 0 ∧ w2 &&& 0xFFFFFFF8#32 ≠ 0 ∧ w3 &&& 0xFFFFFFF0#32 ≠ 0)

/-! ### Word draws: spec/41_scalar_engine.md -/

/-- Rules R63, R64 and R65: on a seeded block `NEXT32` completes with `OK`, each word updated from its
own previous value, the padding lane of a `VECTOR` build 0, the data the xor of the NEW words with 32
zero bits above, and nothing else changed; on an unseeded block it is answered `NotSeeded`. -/
def Obligations.NextWordResult : Prop :=
  ∀ s : State,
    (s.valid = true → ∃ d : DWord,
      d.toNat = (f1 s.z1 ^^^ f2 s.z2 ^^^ f3 s.z3).toNat ∧
      exec .next32 s = .next { s with
        z1 := f1 s.z1, z2 := f2 s.z2, z3 := f3 s.z3
        pad := if s.build.engine = .vector then 0 else s.pad
        delivered := s.delivered ++ [⟨.ok, d, []⟩] }) ∧
    (s.valid = false → exec .next32 s = .next { s with
        delivered := s.delivered ++ [⟨.notSeeded, 0, []⟩] })

/-- Rule R66: on a seeded block `NEXT64` leaves the state two `NEXT32` leave, but for the responses, and
is answered `(a << 32) | b` where `a` and `b` answer those two; on an unseeded block it is answered
`NotSeeded`, with no draw made. -/
def Obligations.NextDoubleIsTwoWords : Prop :=
  ∀ s : State,
    (s.valid = true → ∃ t1 t2 a b,
      exec .next32 s = .next t1 ∧ t1.delivered = s.delivered ++ [⟨.ok, a, []⟩] ∧
      exec .next32 t1 = .next t2 ∧ t2.delivered = t1.delivered ++ [⟨.ok, b, []⟩] ∧
      exec .next64 s = .next { t2 with
        delivered := s.delivered ++ [⟨.ok, (a <<< 32) ||| b, []⟩] }) ∧
    (s.valid = false → exec .next64 s = .next { s with
        delivered := s.delivered ++ [⟨.notSeeded, 0, []⟩] })

/-! ### Byte emission: spec/43_byte_emission.md -/

/-- Rules R90 and R91: the shifter emits a word's bytes low-order first, `w[8k+7:8k]` as the `k`-th, and
stopped after `n` of them has emitted the first `n`. -/
def Obligations.ShifterEmitsLittleEndian : Prop :=
  (∀ (w : Word) (n : Nat), n ≤ 4 → shiftOut n w = (toLeBytes w).take n) ∧
  (∀ w : Word, (toLeBytes w).map BitVec.toNat =
    [w.toNat % 2 ^ 8, w.toNat / 2 ^ 8 % 2 ^ 8, w.toNat / 2 ^ 16 % 2 ^ 8, w.toNat / 2 ^ 24 % 2 ^ 8]) ∧
  toLeBytes 0x04A7B283 = [0x83, 0xB2, 0xA7, 0x04]

/-- Rules R24 and R92: on a seeded block `FILL N` completes with `OK` and `N` bytes, for every `N`; the
byte at offset `j` is bits `8(j mod 4)+7 : 8(j mod 4)` of draw number `j div 4`, the output being the
xor of the words after as many `NEXT32`. -/
def Obligations.FillByteAtOffset : Prop :=
  ∀ (s : State) (n : Nat), s.valid = true →
    ∃ t bytes, exec (.fill n) s = .next t ∧
      t.delivered = s.delivered ++ [⟨.ok, 0, bytes⟩] ∧ bytes.length = n ∧
      ∀ j, j < n → ∃ u, runCommands (List.replicate (j / 4 + 1) .next32) s = some u ∧
        bytes[j]?.map BitVec.toNat =
          some ((u.z1 ^^^ u.z2 ^^^ u.z3).toNat / 2 ^ (8 * (j % 4)) % 2 ^ 8)

/-- Rules R94 and R95: `FILL N` leaves exactly the state that `ceil(N/4)` `NEXT32` leave, but for the
responses, whatever part of the last draw it emits. -/
def Obligations.FillAdvancesByDraws : Prop :=
  ∀ (s : State) (n : Nat), s.valid = true →
    ∃ u bytes, runCommands (List.replicate ((n + 3) / 4) .next32) s = some u ∧
      bytes.length = n ∧
      exec (.fill n) s = .next { u with delivered := s.delivered ++ [⟨.ok, 0, bytes⟩] }

/-- Rule R96: the bytes of `FILL N` are the little-endian bytes of the answers of `ceil(N/4)` successive
`NEXT32`, joined in order and cut to `N`. -/
def Obligations.FillIsTruncatedWordStream : Prop :=
  ∀ (s : State) (n : Nat), s.valid = true →
    ∃ t u rs, exec (.fill n) s = .next t ∧
      runCommands (List.replicate ((n + 3) / 4) .next32) s = some u ∧
      u.delivered = s.delivered ++ rs ∧ rs.length = (n + 3) / 4 ∧
      t.delivered = s.delivered ++ [⟨.ok, 0,
        (rs.flatMap fun r => (List.range 4).map fun k =>
          BitVec.ofNat 8 (r.data.toNat / 2 ^ (8 * k))).take n⟩]

/-- Rule R93: `FILL 0` on a seeded block draws nothing, emits nothing and is answered `OK`; on an
unseeded block it is answered `NotSeeded` like any other `FILL`. -/
def Obligations.FillZeroLength : Prop :=
  ∀ s : State,
    (s.valid = true → exec (.fill 0) s = .next { s with
      delivered := s.delivered ++ [⟨.ok, 0, []⟩] }) ∧
    (s.valid = false → exec (.fill 0) s = .next { s with
      delivered := s.delivered ++ [⟨.notSeeded, 0, []⟩] })

/-- Rule R97: `FILL a` then `FILL b` gives the bytes and the state of `FILL (a+b)` when `a` is a multiple
of 4; and the rule's example, `FILL 3` then `FILL 5` against `FILL 8`, where it is not. -/
def Obligations.FillSplitsAtMultiplesOfFour : Prop :=
  (∀ (s : State) (a b : Nat), s.valid = true → a % 4 = 0 →
    ∃ t1 t2 x y, exec (.fill a) s = .next t1 ∧ t1.delivered = s.delivered ++ [⟨.ok, 0, x⟩] ∧
      exec (.fill b) t1 = .next t2 ∧ t2.delivered = t1.delivered ++ [⟨.ok, 0, y⟩] ∧
      exec (.fill (a + b)) s = .next { t2 with
        delivered := s.delivered ++ [⟨.ok, 0, x ++ y⟩] }) ∧
  (∀ s : State, s.z1 = 123 → s.z2 = 301 → s.z3 = 601 → s.valid = true →
    ∃ t u, runCommands [.fill 3, .fill 5] s = some t ∧ runCommands [.fill 8] s = some u ∧
      t.delivered = s.delivered ++
        [⟨.ok, 0, [0x83, 0xB2, 0xA7]⟩, ⟨.ok, 0, [0x80, 0x02, 0x05, 0x7A, 0x88]⟩] ∧
      u.delivered = s.delivered ++ [⟨.ok, 0, [0x83, 0xB2, 0xA7, 0x04, 0x80, 0x02, 0x05, 0x7A]⟩] ∧
      (t.z1, t.z2, t.z3) = (0x01E80F3A, 0x00128000, 0x680004B2) ∧
      (u.z1, u.z2, u.z3) = (0x7A001E80, 0x00012800, 0x00043400))

/-- Rules R21 and R92: the pseudocode of `FILL` on a destination buffer of `N` bytes, with a `MemWrite`
for each draw, ends with the buffer holding the byte stream, in the same state, whatever the buffer
held before. -/
def Obligations.FillMatchesBufferPseudocode : Prop :=
  ∀ (s : State) (buf : List Byte), s.valid = true →
    exec (.fill buf.length) s = .next { (fillBuffer ((buf.length + 3) / 4) 0 buf.length buf s).1 with
      delivered := s.delivered ++
        [⟨.ok, 0, (fillBuffer ((buf.length + 3) / 4) 0 buf.length buf s).2⟩] }

/-! ### Faults and responses: spec/60_exceptions.md -/

/-- Rule R100: a command answered with a status other than `OK` writes no state register, emits no byte,
returns no data, and the block has then only taken the move and delivered the response. -/
def Obligations.FaultsChangeNothing : Prop :=
  ∀ (s : State) (w : CmdWord) (ms : List Move), s.moves = .cmd w :: ms →
    ∃ t r, step s = .next t ∧ t.delivered = s.delivered ++ [r] ∧
      (r.status ≠ .ok → r.data = 0 ∧ r.bytes = [] ∧
        t = { s with moves := ms, delivered := s.delivered ++ [r] })

/-- Rule R102: `NotSeeded` (code 2) is the answer to `NEXT32`, `NEXT64` and `FILL N`, for every `N`,
exactly when `valid` is 0, and to no other command. -/
def Obligations.NotSeededExactly : Prop :=
  statusCode .notSeeded = 2 ∧
  ∀ (i : Instr) (s : State), ∃ t r, exec i s = .next t ∧ t.delivered = s.delivered ++ [r] ∧
    (r.status = .notSeeded ↔ i.seeds = false ∧ s.valid = false) ∧
    (r.status = .notSeeded → t = { s with delivered := s.delivered ++ [⟨.notSeeded, 0, []⟩] })

/-- Rule R104, and the codes of rule R42: the status of every command word in every state is the one of
the rule's table, and `rsp_status` is 0 for `OK`, 1 for `InvalidSeed`, 2 for `NotSeeded` and 3 for
`IllegalCommand`. -/
def Obligations.StatusTable : Prop :=
  ∀ (s : State) (w : CmdWord) (ms : List Move), s.moves = .cmd w :: ms →
    ∃ t r, step s = .next t ∧ t.delivered = s.delivered ++ [r] ∧
      (∀ i, decode s.build w = .ok i → r.status = statusOf s.valid i ∧
        (statusOf s.valid i = .ok → t.rspStatus = some 0) ∧
        (statusOf s.valid i = .invalidSeed → t.rspStatus = some 1) ∧
        (statusOf s.valid i = .notSeeded → t.rspStatus = some 2)) ∧
      (∀ e, decode s.build w = .error e →
        r.status = .illegalCommand ∧ t.rspStatus = some 3)

/-- Rules R43 and R44: only the word draws return data, `NEXT32` at most 32 bits of it; only a `FILL`
answered `OK` emits bytes, exactly as many as it asks for; a fault returns none of either. -/
def Obligations.ResponseCarriesItsResult : Prop :=
  ∀ (i : Instr) (s : State), ∃ t r, exec i s = .next t ∧ t.delivered = s.delivered ++ [r] ∧
    r.fits s.valid i ∧ (r.status ≠ .ok → r.data = 0 ∧ r.bytes = [])

/-- Rule R73: on a seeded block the drawing commands cannot fail, keep `valid`, and cannot leave the
domain above the minimums. -/
def Obligations.DrawsAreTotalOnSeeded : Prop :=
  ∀ (i : Instr) (s : State), i.seeds = false → s.valid = true → s.aboveMinimums →
    ∃ t r, exec i s = .next t ∧ t.valid = true ∧ t.aboveMinimums ∧
      t.delivered = s.delivered ++ [r] ∧ r.status = .ok

/-- What each of the five commands leaves alone: the build (rule R4, in the field of log 5); the moves
still to come (rule R129, in the list of log 1); the responses before, to which it adds one (rule R45, in
the list of log 3); a drawing command also the flag (rules R11, R65, R66, R92), and the words and the
padding lane where it makes no draw (rule R93) or the block is not seeded; a command that is answered with
a fault the words, the padding lane and the flag (rule R100). The clause on the padding field of a
`SCALAR` build is the model's choice, log 6: rule R12 says that lane does not exist there. -/
def Obligations.CommandFrame : Prop :=
  ∀ (i : Instr) (s : State), ∃ t r, exec i s = .next t ∧ t.delivered = s.delivered ++ [r] ∧
    t.build = s.build ∧ t.moves = s.moves ∧
    (s.build.engine = .scalar → t.pad = s.pad) ∧
    (i.seeds = false → t.valid = s.valid) ∧
    (i.seeds = false → s.valid = false ∨ i.draws = 0 →
      t.z1 = s.z1 ∧ t.z2 = s.z2 ∧ t.z3 = s.z3 ∧ t.pad = s.pad) ∧
    (r.status ≠ .ok → t.z1 = s.z1 ∧ t.z2 = s.z2 ∧ t.z3 = s.z3 ∧ t.pad = s.pad ∧ t.valid = s.valid)

end
end

