-- ==== Sys2Proof/Laws/State.lean ====
section
/-! SUPPORT. What each update of the state does to each field, one lemma per field per update, so that
no later proof unfolds a record update. -/

namespace Sys2Proof.Machine

@[simp] theorem State.setLanes_z1 (s : State) (v : Lanes) :
    (s.setLanes v).z1 = v.l0 := rfl

@[simp] theorem State.setLanes_z2 (s : State) (v : Lanes) :
    (s.setLanes v).z2 = v.l1 := rfl

@[simp] theorem State.setLanes_z3 (s : State) (v : Lanes) :
    (s.setLanes v).z3 = v.l2 := rfl

@[simp] theorem State.setLanes_pad (s : State) (v : Lanes) :
    (s.setLanes v).pad = v.l3 := rfl

@[simp] theorem State.setLanes_valid (s : State) (v : Lanes) :
    (s.setLanes v).valid = s.valid := rfl

@[simp] theorem State.setLanes_build (s : State) (v : Lanes) :
    (s.setLanes v).build = s.build := rfl

@[simp] theorem State.setLanes_moves (s : State) (v : Lanes) :
    (s.setLanes v).moves = s.moves := rfl

@[simp] theorem State.setLanes_delivered (s : State) (v : Lanes) :
    (s.setLanes v).delivered = s.delivered := rfl

@[simp] theorem State.setWords_z1 (s : State) (w : Word × Word × Word) :
    (s.setWords w).z1 = w.1 := rfl

@[simp] theorem State.setWords_z2 (s : State) (w : Word × Word × Word) :
    (s.setWords w).z2 = w.2.1 := rfl

@[simp] theorem State.setWords_z3 (s : State) (w : Word × Word × Word) :
    (s.setWords w).z3 = w.2.2 := rfl

@[simp] theorem State.setWords_pad (s : State) (w : Word × Word × Word) :
    (s.setWords w).pad = s.pad := rfl

@[simp] theorem State.setWords_valid (s : State) (w : Word × Word × Word) :
    (s.setWords w).valid = s.valid := rfl

@[simp] theorem State.setWords_build (s : State) (w : Word × Word × Word) :
    (s.setWords w).build = s.build := rfl

@[simp] theorem State.setWords_moves (s : State) (w : Word × Word × Word) :
    (s.setWords w).moves = s.moves := rfl

@[simp] theorem State.setWords_delivered (s : State) (w : Word × Word × Word) :
    (s.setWords w).delivered = s.delivered := rfl

@[simp] theorem State.respond_z1 (s : State) (r : Response) :
    (s.respond r).z1 = s.z1 := rfl

@[simp] theorem State.respond_z2 (s : State) (r : Response) :
    (s.respond r).z2 = s.z2 := rfl

@[simp] theorem State.respond_z3 (s : State) (r : Response) :
    (s.respond r).z3 = s.z3 := rfl

@[simp] theorem State.respond_pad (s : State) (r : Response) :
    (s.respond r).pad = s.pad := rfl

@[simp] theorem State.respond_valid (s : State) (r : Response) :
    (s.respond r).valid = s.valid := rfl

@[simp] theorem State.respond_build (s : State) (r : Response) :
    (s.respond r).build = s.build := rfl

@[simp] theorem State.respond_moves (s : State) (r : Response) :
    (s.respond r).moves = s.moves := rfl

@[simp] theorem State.respond_delivered (s : State) (r : Response) :
    (s.respond r).delivered = s.delivered ++ [r] := rfl

@[simp] theorem State.raise_z1 (s : State) (f : Status) :
    (s.raise f).z1 = s.z1 := rfl

@[simp] theorem State.raise_z2 (s : State) (f : Status) :
    (s.raise f).z2 = s.z2 := rfl

@[simp] theorem State.raise_z3 (s : State) (f : Status) :
    (s.raise f).z3 = s.z3 := rfl

@[simp] theorem State.raise_pad (s : State) (f : Status) :
    (s.raise f).pad = s.pad := rfl

@[simp] theorem State.raise_valid (s : State) (f : Status) :
    (s.raise f).valid = s.valid := rfl

@[simp] theorem State.raise_build (s : State) (f : Status) :
    (s.raise f).build = s.build := rfl

@[simp] theorem State.raise_moves (s : State) (f : Status) :
    (s.raise f).moves = s.moves := rfl

@[simp] theorem State.raise_delivered (s : State) (f : Status) :
    (s.raise f).delivered = s.delivered ++ [⟨f, 0, []⟩] := rfl

@[simp] theorem State.takeMove_z1 (s : State) :
    s.takeMove.z1 = s.z1 := rfl

@[simp] theorem State.takeMove_z2 (s : State) :
    s.takeMove.z2 = s.z2 := rfl

@[simp] theorem State.takeMove_z3 (s : State) :
    s.takeMove.z3 = s.z3 := rfl

@[simp] theorem State.takeMove_pad (s : State) :
    s.takeMove.pad = s.pad := rfl

@[simp] theorem State.takeMove_valid (s : State) :
    s.takeMove.valid = s.valid := rfl

@[simp] theorem State.takeMove_build (s : State) :
    s.takeMove.build = s.build := rfl

@[simp] theorem State.takeMove_moves (s : State) :
    s.takeMove.moves = s.moves.tail := rfl

@[simp] theorem State.takeMove_delivered (s : State) :
    s.takeMove.delivered = s.delivered := rfl

@[simp] theorem State.present_z1 (s : State) (w : CmdWord) :
    (s.present w).z1 = s.z1 := rfl

@[simp] theorem State.present_z2 (s : State) (w : CmdWord) :
    (s.present w).z2 = s.z2 := rfl

@[simp] theorem State.present_z3 (s : State) (w : CmdWord) :
    (s.present w).z3 = s.z3 := rfl

@[simp] theorem State.present_pad (s : State) (w : CmdWord) :
    (s.present w).pad = s.pad := rfl

@[simp] theorem State.present_valid (s : State) (w : CmdWord) :
    (s.present w).valid = s.valid := rfl

@[simp] theorem State.present_build (s : State) (w : CmdWord) :
    (s.present w).build = s.build := rfl

@[simp] theorem State.present_moves (s : State) (w : CmdWord) :
    (s.present w).moves = .cmd w :: s.moves := rfl

@[simp] theorem State.present_delivered (s : State) (w : CmdWord) :
    (s.present w).delivered = s.delivered := rfl

@[simp] theorem State.rejectWord_z1 (s : State) (e : Reject) :
    (s.rejectWord e).z1 = s.z1 := rfl

@[simp] theorem State.rejectWord_z2 (s : State) (e : Reject) :
    (s.rejectWord e).z2 = s.z2 := rfl

@[simp] theorem State.rejectWord_z3 (s : State) (e : Reject) :
    (s.rejectWord e).z3 = s.z3 := rfl

@[simp] theorem State.rejectWord_pad (s : State) (e : Reject) :
    (s.rejectWord e).pad = s.pad := rfl

@[simp] theorem State.rejectWord_valid (s : State) (e : Reject) :
    (s.rejectWord e).valid = s.valid := rfl

@[simp] theorem State.rejectWord_build (s : State) (e : Reject) :
    (s.rejectWord e).build = s.build := rfl

@[simp] theorem State.rejectWord_moves (s : State) (e : Reject) :
    (s.rejectWord e).moves = s.moves := rfl

@[simp] theorem State.rejectWord_delivered (s : State) (e : Reject) :
    (s.rejectWord e).delivered = s.delivered ++ [⟨.illegalCommand, 0, []⟩] := rfl

@[simp] theorem State.resetEvent_z1 (s : State) :
    s.resetEvent.z1 = 0 := rfl

@[simp] theorem State.resetEvent_z2 (s : State) :
    s.resetEvent.z2 = 0 := rfl

@[simp] theorem State.resetEvent_z3 (s : State) :
    s.resetEvent.z3 = 0 := rfl

@[simp] theorem State.resetEvent_pad (s : State) :
    s.resetEvent.pad = 0 := rfl

@[simp] theorem State.resetEvent_valid (s : State) :
    s.resetEvent.valid = false := rfl

@[simp] theorem State.resetEvent_build (s : State) :
    s.resetEvent.build = s.build := rfl

@[simp] theorem State.resetEvent_moves (s : State) :
    s.resetEvent.moves = s.moves := rfl

@[simp] theorem State.resetEvent_delivered (s : State) :
    s.resetEvent.delivered = s.delivered := rfl

@[simp] theorem State.seed_valid (s : State) (w : Word × Word × Word) :
    (s.seed w).valid = true := by
  unfold State.seed; split <;> rfl

@[simp] theorem State.seed_build (s : State) (w : Word × Word × Word) :
    (s.seed w).build = s.build := by
  unfold State.seed; split <;> rfl

@[simp] theorem State.seed_moves (s : State) (w : Word × Word × Word) :
    (s.seed w).moves = s.moves := by
  unfold State.seed; split <;> rfl

@[simp] theorem State.seed_delivered (s : State) (w : Word × Word × Word) :
    (s.seed w).delivered = s.delivered := by
  unfold State.seed; split <;> rfl

@[simp] theorem State.seed_z1 (s : State) (w : Word × Word × Word) :
    (s.seed w).z1 = w.1 := by
  unfold State.seed; split <;> rfl

@[simp] theorem State.seed_z2 (s : State) (w : Word × Word × Word) :
    (s.seed w).z2 = w.2.1 := by
  unfold State.seed; split <;> rfl

@[simp] theorem State.seed_z3 (s : State) (w : Word × Word × Word) :
    (s.seed w).z3 = w.2.2 := by
  unfold State.seed; split <;> rfl

@[simp] theorem State.advance_valid (s : State) :
    s.advance.valid = s.valid := by
  unfold State.advance; split <;> rfl

@[simp] theorem State.advance_build (s : State) :
    s.advance.build = s.build := by
  unfold State.advance; split <;> rfl

@[simp] theorem State.advance_moves (s : State) :
    s.advance.moves = s.moves := by
  unfold State.advance; split <;> rfl

@[simp] theorem State.advance_delivered (s : State) :
    s.advance.delivered = s.delivered := by
  unfold State.advance; split <;> rfl

/-- Seeding writes 0 to the padding lane of a `VECTOR` build and leaves the field alone in a `SCALAR`
build. -/
@[simp] theorem State.seed_pad (s : State) (w : Word × Word × Word) :
    (s.seed w).pad = if s.build.engine = .vector then 0 else s.pad := by
  unfold State.seed; split <;> simp_all

@[simp] theorem State.present_takeMove (s : State) (w : CmdWord) : (s.present w).takeMove = s := rfl

@[simp] theorem State.lanes_l0 (s : State) : s.lanes.l0 = s.z1 := rfl
@[simp] theorem State.lanes_l1 (s : State) : s.lanes.l1 = s.z2 := rfl
@[simp] theorem State.lanes_l2 (s : State) : s.lanes.l2 = s.z3 := rfl
@[simp] theorem State.lanes_l3 (s : State) : s.lanes.l3 = s.pad := rfl

end Sys2Proof.Machine
end

