-- ==== Sys2Proof/Laws/Ops.lean ====
section
/-! SUPPORT. What each shared operation can do, said once: a draw in either build, the shifter, the
buffer write, the loop of `FILL`. -/

namespace Sys2Proof.Machine

/-- A lane whose mask and shift amounts are 0 becomes 0, whatever it held. -/
theorem laneStep_zero (p : Word) :
    xor32 (shl32 (and32 p 0) 0) (shr32 (xor32 (shl32 p 0) p) 0) = 0 := by
  simp [xor32, shl32, shr32, and32]

@[simp] theorem State.advance_z1 (s : State) : s.advance.z1 = f1 s.z1 := by
  unfold State.advance; split <;> rfl

@[simp] theorem State.advance_z2 (s : State) : s.advance.z2 = f2 s.z2 := by
  unfold State.advance; split <;> rfl

@[simp] theorem State.advance_z3 (s : State) : s.advance.z3 = f3 s.z3 := by
  unfold State.advance; split <;> rfl

/-- A draw zeroes the padding lane of a `VECTOR` build and leaves the field alone in a `SCALAR` build.
-/
@[simp] theorem State.advance_pad (s : State) :
    s.advance.pad = if s.build.engine = .vector then 0 else s.pad := by
  unfold State.advance
  split
  · simp_all
  · rename_i h; rw [h]; exact laneStep_zero s.pad

/-- The output is the xor of the three words in either build. -/
theorem State.output_eq (s : State) : s.output = s.z1 ^^^ s.z2 ^^^ s.z3 := by
  unfold State.output; split <;> rfl

/-- The state after a draw, in either build, as one record. -/
theorem State.advance_eq (s : State) :
    s.advance = { s with
      z1 := f1 s.z1, z2 := f2 s.z2, z3 := f3 s.z3
      pad := if s.build.engine = .vector then 0 else s.pad } := by
  have hp := s.advance_pad
  unfold State.advance at hp ⊢
  split at hp <;> rename_i h <;> simp only [h] at hp ⊢
  · rw [← hp]; rfl
  · rw [← hp]; rfl

/-- A response waits for nothing and changes no word, so it commutes with a draw. -/
theorem State.advance_respond (s : State) (r : Response) :
    (s.respond r).advance = s.advance.respond r := by
  simp [State.advance_eq, State.respond]

@[simp] theorem State.draw32_fst (s : State) : s.draw32.1 = s.advance := rfl

@[simp] theorem State.draw32_snd (s : State) : s.draw32.2 = s.advance.output := rfl

@[simp] theorem shiftOut_length (n : Nat) (h : Word) : (shiftOut n h).length = n := by
  induction n generalizing h with
  | zero => rfl
  | succ n ih => simp [shiftOut, ih]

@[simp] theorem memWrite_length (buf : List Byte) (addr n : Nat) (v : Word) :
    (memWrite buf addr n v).length = buf.length := by
  induction n with
  | zero => rfl
  | succ n ih => simp [memWrite, ih]

/-- The loop of `FILL` delivers the bytes wanted when it has draws enough for them. -/
theorem fillChunks_length (d n : Nat) (s : State) (h : n ≤ 4 * d) :
    (fillChunks d n s).2.length = n := by
  induction d generalizing n s with
  | zero => simp [fillChunks]; omega
  | succ d ih => simp only [fillChunks, List.length_append, shiftOut_length, ih _ _ (by omega : n - 4 ≤ 4 * d)]; omega

/-- The loop of `FILL` leaves the flag, the build and the two channels alone. -/
theorem fillChunks_frame (d n : Nat) (s : State) :
    (fillChunks d n s).1.valid = s.valid ∧ (fillChunks d n s).1.build = s.build ∧
      (fillChunks d n s).1.moves = s.moves ∧ (fillChunks d n s).1.delivered = s.delivered := by
  induction d generalizing n s with
  | zero => simp [fillChunks]
  | succ d ih => simpa [fillChunks] using ih (n - 4) s.advance

theorem drawsFor_enough (n : Nat) : n ≤ 4 * drawsFor n := by unfold drawsFor; omega

end Sys2Proof.Machine
end

