-- ==== Sys2Proof/Laws/Exec.lean ====
section
/-! SUPPORT. What each meaning answers, said once per case, in terms of the operations of Ops.lean. -/

namespace Sys2Proof.Machine

theorem seedValid_iff (w1 w2 w3 : Word) :
    seedValid w1 w2 w3 = true ↔ 2 ≤ w1.toNat ∧ 8 ≤ w2.toNat ∧ 16 ≤ w3.toNat := by
  simp [seedValid, min1, min2, min3, BitVec.le_def, and_assoc]

theorem umax32_toNat (a b : Word) : (umax32 a b).toNat = max a.toNat b.toNat := by
  unfold umax32
  split <;> simp_all [BitVec.le_def]
  omega

theorem execSeedw_of_valid {w1 w2 w3 : Word} (h : seedValid w1 w2 w3 = true) (s : State) :
    execSeedw w1 w2 w3 s = .next ((s.seed (w1, w2, w3)).respond ⟨.ok, 0, []⟩) := by
  simp [execSeedw, h]

theorem execSeedw_of_invalid {w1 w2 w3 : Word} (h : seedValid w1 w2 w3 = false) (s : State) :
    execSeedw w1 w2 w3 s = .next (s.raise .invalidSeed) := by
  simp [execSeedw, h]

theorem execNext32_of_seeded {s : State} (h : s.valid = true) :
    execNext32 s = .next (s.advance.respond ⟨.ok, s.advance.output.setWidth 64, []⟩) := by
  simp [execNext32, h]

theorem execNext32_of_unseeded {s : State} (h : s.valid = false) :
    execNext32 s = .next (s.raise .notSeeded) := by
  simp [execNext32, h]

theorem execNext64_of_seeded {s : State} (h : s.valid = true) :
    execNext64 s = .next (s.advance.advance.respond
      ⟨.ok, s.advance.output ++ s.advance.advance.output, []⟩) := by
  simp [execNext64, h]

theorem execNext64_of_unseeded {s : State} (h : s.valid = false) :
    execNext64 s = .next (s.raise .notSeeded) := by
  simp [execNext64, h]

theorem execFill_of_seeded {s : State} (h : s.valid = true) (n : Nat) :
    execFill n s = .next ((fillChunks (drawsFor n) n s).1.respond
      ⟨.ok, 0, (fillChunks (drawsFor n) n s).2⟩) := by
  simp [execFill, h]

theorem execFill_of_unseeded {s : State} (h : s.valid = false) (n : Nat) :
    execFill n s = .next (s.raise .notSeeded) := by
  simp [execFill, h]

end Sys2Proof.Machine
end

