-- ==== Sys2Proof/Laws/PerInstr.lean ====
section
/-! SUPPORT. Statements made once per command, about the command as syntax. Family `EncodedOp`: the
command word of a command has the command's own opcode in bits 98:96, and that opcode is none of the
three reserved ones (spec/30_encoding.md rules R35, R36, R41). -/

/-- The word of `i` carries its opcode and is no reserved word. -/
def Sys2Proof.Laws.EncodedOp.Statement (i : Sys2Proof.Instr) : Prop :=
  Sys2Proof.opField (Sys2Proof.encode i) = Sys2Proof.opcodeOf i ∧
    1 ≤ (Sys2Proof.opcodeOf i).toNat ∧ (Sys2Proof.opcodeOf i).toNat ≤ 5

/-- The opcode field of `op ++ payload` is `op`, whatever the payload (rule R35). -/
theorem Sys2Proof.Laws.opField_append (op : BitVec 3) (p : Sys2Proof.Payload) :
    Sys2Proof.opField (op ++ p) = op := by
  apply BitVec.eq_of_getLsbD_eq
  intro i hi
  have h : (op ++ p : BitVec (3 + 96)).getLsbD (96 + i) = op.getLsbD i := by
    rw [BitVec.getLsbD_append]; simp
  simpa [Sys2Proof.opField, hi] using h

theorem Sys2Proof.Laws.EncodedOp.seedb (b : Vector Sys2Proof.Byte 12) :
    Sys2Proof.Laws.EncodedOp.Statement (.seedb b) :=
  ⟨Sys2Proof.Laws.opField_append _ _, by simp [Sys2Proof.opcodeOf], by simp [Sys2Proof.opcodeOf]⟩

theorem Sys2Proof.Laws.EncodedOp.seedw (seed1 seed2 seed3 : Sys2Proof.Word) :
    Sys2Proof.Laws.EncodedOp.Statement (.seedw seed1 seed2 seed3) :=
  ⟨Sys2Proof.Laws.opField_append _ _, by simp [Sys2Proof.opcodeOf], by simp [Sys2Proof.opcodeOf]⟩

theorem Sys2Proof.Laws.EncodedOp.next32 : Sys2Proof.Laws.EncodedOp.Statement .next32 :=
  ⟨Sys2Proof.Laws.opField_append _ _, by simp [Sys2Proof.opcodeOf], by simp [Sys2Proof.opcodeOf]⟩

theorem Sys2Proof.Laws.EncodedOp.next64 : Sys2Proof.Laws.EncodedOp.Statement .next64 :=
  ⟨Sys2Proof.Laws.opField_append _ _, by simp [Sys2Proof.opcodeOf], by simp [Sys2Proof.opcodeOf]⟩

theorem Sys2Proof.Laws.EncodedOp.fill (n : Nat) :
    Sys2Proof.Laws.EncodedOp.Statement (.fill n) :=
  ⟨Sys2Proof.Laws.opField_append _ _, by simp [Sys2Proof.opcodeOf], by simp [Sys2Proof.opcodeOf]⟩
end

