-- ==== Sys2Proof/Tests/Slice0.lean ====
section
/-! SUPPORT. The model's own tests. Expected values come from the spec (the file and section is named
at each group), never from the model. The theorems named `witness_...` show that the hypotheses of the
statement they name can be met, at the edges of its ranges. -/

namespace Sys2Proof.Tests

open Sys2Proof Sys2Proof.Machine

/-- The state of an outcome, if it is a next state. -/
def stateOf : Host.Outcome State Fault Refusal → Option State
  | .next s => some s
  | .fault _ => none
  | .refused _ => none

/-- A seeded block with the given words, of the given engine, with `LEN_W = 32`. -/
def seeded (e : Engine) (z1 z2 z3 : Word) : State :=
  { State.reset with
    z1 := z1, z2 := z2, z3 := z3, valid := true
    build := { engine := e, lenW := 32 } }

/-- The words and the flag of the outcome. -/
def wordsOf (o : Host.Outcome State Fault Refusal) : Option (Word × Word × Word × Bool) :=
  (stateOf o).map fun s => (s.z1, s.z2, s.z3, s.valid)

/-- The responses of the outcome. -/
def responsesOf (o : Host.Outcome State Fault Refusal) : Option (List Response) :=
  (stateOf o).map fun s => s.delivered

/-! ### Well-formedness: each check refuses an ill-formed term (rule R6) -/

theorem test_wf_refuses_long_fill : (Instr.fill (2 ^ 32)).wf Config.resetBuild = false := by decide
theorem test_wf_takes_longest_fill : (Instr.fill (2 ^ 32 - 1)).wf Config.resetBuild = true := by decide
theorem test_build_refuses_width_zero : Build.wf ⟨.scalar, 0⟩ = false := by decide
theorem test_build_refuses_width_97 : Build.wf ⟨.vector, 97⟩ = false := by decide
theorem test_build_takes_edges : Build.wf ⟨.scalar, 1⟩ = true ∧ Build.wf ⟨.vector, 96⟩ = true := by
  decide

/-! ### Decoding: words written out from 30_encoding.md R47 and 95_test_vectors.md section 8 -/

theorem test_decode_seedb : decodeTableWord 104 0x1000002590000012D0000007B =
    some (.seedb #v[123, 0, 0, 0, 45, 1, 0, 0, 89, 2, 0, 0]) := by decide
theorem test_decode_seedb_order : decodeTableWord 104 0x10C0B0A090807060504030201 =
    some (.seedb #v[1, 2, 3, 4, 5, 6, 7, 8, 9, 10, 11, 12]) := by decide
theorem test_decode_seedw : decodeTableWord 104 0x200043400000128007A001E80 =
    some (.seedw 0x7A001E80 0x00012800 0x00043400) := by decide
theorem test_decode_next32_ignores : decodeTableWord 104 0x3FFFFFFFFFFFFFFFFFFFFFFFF =
    some .next32 := by decide
theorem test_decode_next64 : decodeTableWord 104 0x4000000000000000000000000 = some .next64 := by
  decide
theorem test_decode_fill_ignores_high : decodeTableWord 104 0x50000000000ABCDEF00000005 =
    some (.fill 5) := by decide
theorem test_decode_reserved_zero : decodeTableWord 104 0 = none := by decide
theorem test_decode_reserved_six : decode Config.resetBuild 0x6000000000000000000001234 =
    .error (.reservedOpcode 6) := by rfl
theorem test_decode_reserved_seven : decode Config.resetBuild 0x7FFFFFFFFFFFFFFFFFFFFFFFF =
    .error (.reservedOpcode 7) := by rfl
theorem test_encode_fill : encode (.fill 7) = 0x5000000000000000000000007 := by decide
theorem test_assemble_raw : assemble (.raw 0x7000000000000000000000000) =
    .cmd 0x7000000000000000000000000 := by decide
theorem test_assemble_command : assemble (.command (.seedw 3 15 31)) =
    .cmd 0x20000001F0000000F00000003 := by decide

/-! ### Datapath: 95_test_vectors.md sections 2, 3 and 6 -/

theorem test_shl32_drops : shl32 0x00080000 13 = 0 ∧ shl32 0x00040000 13 = 0x80000000 := by decide
theorem test_shr32_is_logical : shr32 0x80000000 19 = 0x00001000 := by decide
theorem test_umax32_is_unsigned : umax32 0x80000000 2 = 0x80000000 ∧ umax32 1 2 = 2 := by decide
theorem test_components : f1 0xDEADBEEF = 0xDBEEED2E ∧ f2 0xDEADBEEF = 0xEADBEED2 ∧
    f3 0xDEADBEEF = 0x7DC57809 := by decide
theorem test_components_top_bit : f1 0x80000000 = 0x00001000 ∧ f2 0x80000000 = 0x00000040 ∧
    f3 0x80000000 = 0x00100000 := by decide
theorem test_vStep_garbage_lane :
    vStep ⟨0xFFFFFFFF, 0xFFFFFFFF, 0xFFFFFFFF, 0xFFFFFFFF⟩ =
      ⟨0xFFFFE000, 0xFFFFFF80, 0xFFE00000, 0⟩ := by decide
/-- The codes of 30_encoding.md R42. -/
theorem test_status_codes :
    statusCode .ok = 0 ∧ statusCode .invalidSeed = 1 ∧ statusCode .notSeeded = 2 ∧
    statusCode .illegalCommand = 3 := by decide
theorem test_hXor3 : hXor3 (vStep ⟨2, 8, 16, 1⟩) = 0x00202080 := by decide
theorem test_toLeBytes : toLeBytes 0xFF000001 = [0x01, 0x00, 0x00, 0xFF] := by decide
theorem test_memWrite_partial : memWrite [9, 9, 9, 9, 9, 9] 2 3 0x04A7B283 =
    [9, 9, 0x83, 0xB2, 0xA7, 9] := by decide

/-! ### One step of each command: 95_test_vectors.md sections 5, 7 and 8 -/

theorem test_seedb_promotes :
    wordsOf (exec (.seedb #v[1, 0, 0, 0, 7, 0, 0, 0, 15, 0, 0, 0]) State.reset) =
      some (2, 8, 16, true) := by decide
theorem test_seedb_weights :
    wordsOf (exec (.seedb #v[0x78, 0x56, 0x34, 0x12, 0xF0, 0xDE, 0xBC, 0x9A, 0xA9, 0xCB, 0xED, 0x0F])
      (seeded .vector 123 301 601)) =
      some (0x12345678, 0x9ABCDEF0, 0x0FEDCBA9, true) := by decide
theorem test_seedw_rejects :
    stateOf (exec (.seedw 2 8 15) (seeded .scalar 123 301 601)) =
      some { seeded .scalar 123 301 601 with delivered := [⟨.invalidSeed, 0, []⟩] } := by decide
theorem test_seedw_unsigned :
    wordsOf (exec (.seedw 0x80000000 8 16) State.reset) = some (0x80000000, 8, 16, true) := by decide
theorem test_next32_first :
    stateOf (exec .next32 (seeded .scalar 123 301 601)) =
      some { seeded .scalar 0x0007A001 0x00001280 0x04A00002 with
        delivered := [⟨.ok, 78099075, []⟩] } := by decide
theorem test_next32_vector :
    stateOf (exec .next32 { seeded .vector 2 8 16 with pad := 0xDEADBEEF }) =
      some { seeded .vector 0x00002000 0x00000080 0x00200000 with
        delivered := [⟨.ok, 2105472, []⟩] } := by decide
theorem test_next64_high_first :
    responsesOf (exec .next64 (seeded .scalar 123 301 601)) =
      some [⟨.ok, 0x04A7B2837A050280, []⟩] := by decide
theorem test_next64_unseeded :
    stateOf (exec .next64 State.reset) =
      some { State.reset with delivered := [⟨.notSeeded, 0, []⟩] } := by decide
theorem test_fill_partial :
    stateOf (exec (.fill 7) (seeded .scalar 123 301 601)) =
      some { seeded .scalar 0x7A001E80 0x00012800 0x00043400 with
        delivered := [⟨.ok, 0, [0x83, 0xB2, 0xA7, 0x04, 0x80, 0x02, 0x05]⟩] } := by decide
theorem test_fill_zero_unseeded :
    responsesOf (exec (.fill 0) State.reset) = some [⟨.notSeeded, 0, []⟩] := by decide

/-! ### Steps from reset -/

theorem test_step_ok_code :
    ((stateOf (step (State.reset.present 0x2000000100000000800000002))).bind State.rspStatus) =
      some 0 := by decide
theorem test_step_presented_seedw :
    wordsOf (step (State.reset.withFetchWord 104 0x2000000100000000800000002)) =
      some (2, 8, 16, true) := by decide
theorem test_step_reserved :
    stateOf (step ((seeded .scalar 123 301 601).withFetchWord 104 0x7000000000000000000000000)) =
      some { seeded .scalar 123 301 601 with delivered := [⟨.illegalCommand, 0, []⟩] } := by decide
theorem test_step_reset :
    wordsOf (step { seeded .vector 123 301 601 with moves := [.reset] }) =
      some (0, 0, 0, false) := by decide

/-! ### Witnesses: the hypotheses of the statements can be met -/

theorem witness_DecodeOfEncode :
    (Build.wf ⟨.scalar, 1⟩ = true ∧ (Instr.fill 1).wf ⟨.scalar, 1⟩ = true) ∧
    (Build.wf ⟨.vector, 96⟩ = true ∧ (Instr.fill (2 ^ 96 - 1)).wf ⟨.vector, 96⟩ = true) := by decide
theorem witness_EncodeOfDecode :
    Build.wf ⟨.scalar, 8⟩ = true ∧
    decode ⟨.scalar, 8⟩ 0x5FFFFFFFFFFFFFFFFFFFFFFFF = .ok (.fill 255) := ⟨by decide, rfl⟩
theorem witness_OpcodeMap :
    opNumber 0x0000000000000000000000001 = 0 ∧ opNumber 0x1000000000000000000000000 = 1 ∧
    opNumber 0x2000000000000000000000000 = 2 ∧ opNumber 0x3000000000000000000000000 = 3 ∧
    opNumber 0x4000000000000000000000000 = 4 ∧ opNumber 0x5000000000000000000000000 = 5 ∧
    opNumber 0x6000000000000000000000000 = 6 ∧ opNumber 0x7FFFFFFFFFFFFFFFFFFFFFFFF = 7 := by decide
theorem witness_SeedbPayload : opNumber 0x1FFFFFFFFFFFFFFFFFFFFFFFF = 1 := by decide
theorem witness_SeedwPayload : opNumber 0x2FFFFFFFFFFFFFFFFFFFFFFFF = 2 := by decide
theorem witness_FillPayload :
    Build.wf ⟨.scalar, 96⟩ = true ∧ opNumber 0x5FFFFFFFFFFFFFFFFFFFFFFFF = 5 := by decide
theorem witness_PayloadIgnored :
    opNumber 0 = opNumber 1 ∧ opNumber 0 = 0 ∧
    opNumber 0x3000000000000000000000000 = opNumber 0x3FFFFFFFFFFFFFFFFFFFFFFFF ∧
    opNumber 0x3000000000000000000000000 = 3 ∧
    opNumber 0x4000000000000000000000000 = opNumber 0x4FFFFFFFFFFFFFFFFFFFFFFFF ∧
    opNumber 0x4000000000000000000000000 = 4 ∧
    opNumber 0x6000000000000000000000000 = opNumber 0x6FFFFFFFFFFFFFFFFFFFFFFFF ∧
    opNumber 0x6000000000000000000000000 = 6 ∧
    opNumber 0x7000000000000000000000000 = opNumber 0x7FFFFFFFFFFFFFFFFFFFFFFFF ∧
    opNumber 0x7000000000000000000000000 = 7 := by decide
theorem witness_StepRunsDecodedCommand :
    (State.reset.present 0x3000000000000000000000000).moves =
      .cmd 0x3000000000000000000000000 :: [] ∧
    decode State.reset.build 0x3000000000000000000000000 = .ok .next32 := ⟨rfl, rfl⟩
theorem witness_PresentedWordRunsNext :
    decode State.reset.build (BitVec.ofNat 99 (0x5000000000000000000000007 % 2 ^ 104)) =
      .ok (.fill 7) := rfl
theorem witness_ReservedOpcodeIsIllegalCommand :
    ((State.reset.present 0).moves = .cmd 0 :: [] ∧ opNumber 0 = 0) ∧
    ((State.reset.present 0x1000000000000000000000000).moves =
      .cmd 0x1000000000000000000000000 :: [] ∧
      1 ≤ opNumber 0x1000000000000000000000000 ∧ opNumber 0x1000000000000000000000000 ≤ 5) := by
  decide
theorem witness_ResetEvent :
    ({ seeded .vector 2 8 16 with moves := [.reset, .cmd 0] } : State).moves =
      .reset :: [.cmd 0] := rfl
theorem witness_NoMoveChangesNothing : (seeded .vector 2 8 16).moves = [] := rfl
theorem witness_ValidFlagChanges :
    (wordsOf (step (State.reset.present 0x1000000000000000000000000)) = some (2, 8, 16, true) ∧
      State.reset.valid = false) ∧
    (wordsOf (step { seeded .scalar 2 8 16 with moves := [.reset] }) = some (0, 0, 0, false) ∧
      (seeded .scalar 2 8 16).valid = true) := by decide
theorem witness_UnseededAfterReset :
    opNumber 0x3000000000000000000000000 = 3 ∧ opNumber 0x4000000000000000000000000 = 4 ∧
    opNumber 0x5FFFFFFFFFFFFFFFFFFFFFFFF = 5 := by decide
theorem witness_StepKeepsInvariant :
    ({ seeded .vector 2 8 16 with moves := [.cmd 0x3000000000000000000000000] } : State).Inv ∧
    (stateOf (step { seeded .vector 2 8 16 with
      moves := [.cmd 0x3000000000000000000000000] })).isSome = true := by decide
theorem witness_StepKeepsHostView :
    (seeded .scalar 2 8 16).SameToHost { seeded .vector 2 8 16 with pad := 7 } ∧
    State.reset.SameToHost { State.reset with z1 := 5 } := by decide
theorem witness_SeedDeterminesResponses :
    (Instr.seeds (.seedw 2 8 16) = true ∧ statusOf true (.seedw 2 8 16) = .ok) ∧
    (Instr.seeds (.seedb #v[0, 0, 0, 0, 0, 0, 0, 0, 0, 0, 0, 0]) = true ∧
      statusOf false (.seedb #v[0, 0, 0, 0, 0, 0, 0, 0, 0, 0, 0, 0]) = .ok) := by decide
theorem witness_DeadBitsNeverMatter :
    (seeded .scalar 2 8 16).SameLiveBits (seeded .scalar 3 15 31) ∧
    Instr.draws (.fill 1) = 1 ∧ Instr.seeds (.fill 1) = false := by decide
theorem witness_MinimumsArePreserved :
    2 ≤ (2 : Word).toNat ∧ (1 : Word).toNat < 2 ∧ 8 ≤ (8 : Word).toNat ∧ (7 : Word).toNat < 8 ∧
    16 ≤ (16 : Word).toNat ∧ (15 : Word).toNat < 16 ∧ f1 2 >>> 1 = f1 3 >>> 1 ∧
    f2 8 >>> 3 = f2 15 >>> 3 ∧ f3 16 >>> 4 = f3 31 >>> 4 := by decide
theorem witness_ThreeDrawsAreNotAllZero :
    (seeded .scalar 2 8 16).valid = true ∧ (seeded .scalar 2 8 16).aboveMinimums ∧
    (seeded .scalar 1 7 15).valid = true ∧ ¬ (seeded .scalar 1 7 15).aboveMinimums := by decide
theorem witness_LaneOperations :
    vShr.l0.toNat ≤ 31 ∧ vShr.l1.toNat ≤ 31 ∧ vShr.l2.toNat ≤ 31 ∧ vShr.l3.toNat ≤ 31 := by decide
theorem witness_SeedwStoresOrRejects :
    (2 ≤ (2 : Word).toNat ∧ 8 ≤ (8 : Word).toNat ∧ 16 ≤ (16 : Word).toNat) ∧
    (1 : Word).toNat < 2 ∧ (7 : Word).toNat < 8 ∧ (15 : Word).toNat < 16 := by decide
theorem witness_SeedingDisciplinesAgree :
    (2 : Word).toNat = leValue #v[2, 0, 0, 0, 8, 0, 0, 0, 16, 0, 0, 0] 0 ∧
    (8 : Word).toNat = leValue #v[2, 0, 0, 0, 8, 0, 0, 0, 16, 0, 0, 0] 4 ∧
    (16 : Word).toNat = leValue #v[2, 0, 0, 0, 8, 0, 0, 0, 16, 0, 0, 0] 8 := by decide
theorem witness_NextWordResult :
    (seeded .vector 2 8 16).valid = true ∧ State.reset.valid = false := by decide
theorem witness_NextDoubleIsTwoWords :
    (seeded .vector 2 8 16).valid = true ∧ State.reset.valid = false := by decide
theorem witness_FillZeroLength :
    (seeded .vector 2 8 16).valid = true ∧ State.reset.valid = false := by decide
theorem witness_FillAdvancesByDraws : (seeded .vector 2 8 16).valid = true := rfl
theorem witness_FillIsTruncatedWordStream : (seeded .scalar 0x80000000 8 16).valid = true := rfl
theorem witness_FillMatchesBufferPseudocode : (seeded .scalar 123 301 601).valid = true := rfl
theorem witness_SeedingEstablishesMinimums :
    Instr.seeds (.seedw 2 8 16) = true ∧ statusOf false (.seedw 2 8 16) = .ok ∧
    Instr.seeds (.seedb #v[0, 0, 0, 0, 0, 0, 0, 0, 0, 0, 0, 0]) = true ∧
    statusOf true (.seedb #v[0, 0, 0, 0, 0, 0, 0, 0, 0, 0, 0, 0]) = .ok := by decide
theorem witness_StepIsTotal :
    (State.reset.present 0).moves = .cmd 0 :: [] ∧
    ({ seeded .vector 2 8 16 with moves := [.reset] } : State).moves = .reset :: [] ∧
    State.reset.moves = [] := by decide
theorem witness_CommandFrame :
    (seeded .scalar 2 8 16).build.engine = .scalar ∧ Instr.seeds .next64 = false ∧
    State.reset.valid = false ∧ Instr.draws (.fill 0) = 0 ∧ Instr.seeds (.fill 0) = false := by decide
theorem witness_Primitives : 0 ≤ 31 ∧ 31 ≤ 31 ∧ shl32 1 31 = 0x80000000 ∧ shr32 0x80000000 31 = 1 := by
  decide
theorem witness_ShifterEmitsLittleEndian : 0 ≤ 4 ∧ 4 ≤ 4 := by decide
theorem witness_FillByteAtOffset :
    (seeded .scalar 2 8 16).valid = true ∧ 0 < 1 ∧ (4 : Nat) < 5 := by decide
theorem witness_FillSplitsAtMultiplesOfFour :
    (seeded .vector 123 301 601).valid = true ∧ 0 % 4 = 0 ∧ 4 % 4 = 0 ∧
    (seeded .vector 123 301 601).z1 = 123 ∧ (seeded .vector 123 301 601).z2 = 301 ∧
    (seeded .vector 123 301 601).z3 = 601 := by decide
theorem witness_FaultsChangeNothing :
    (State.reset.present 0x3000000000000000000000000).moves =
      .cmd 0x3000000000000000000000000 :: [] ∧
    responsesOf (step (State.reset.present 0x3000000000000000000000000)) =
      some [⟨.notSeeded, 0, []⟩] := by decide
theorem witness_WorkedEncodings :
    Build.wf ⟨.scalar, 3⟩ = true ∧ 7 < 2 ^ (Build.lenW ⟨.scalar, 3⟩) ∧
    Build.wf ⟨.vector, 1⟩ = true ∧ Build.wf ⟨.vector, 96⟩ = true := by decide
theorem witness_StatusTable_codes :
    statusOf false (.seedw 2 8 16) = .ok ∧ statusOf true (.seedw 2 8 15) = .invalidSeed ∧
    statusOf true (.fill 0) = .ok ∧ statusOf false (.fill 0) = .notSeeded := by decide
theorem witness_StatusTable :
    (State.reset.present 0x6000000000000000000000000).moves =
      .cmd 0x6000000000000000000000000 :: [] ∧
    decode State.reset.build 0x6000000000000000000000000 = .error (.reservedOpcode 6) ∧
    decode State.reset.build 0x4000000000000000000000000 = .ok .next64 := ⟨rfl, rfl, rfl⟩
theorem witness_DrawsAreTotalOnSeeded :
    Instr.seeds (.fill 0) = false ∧ (seeded .vector 2 8 16).valid = true ∧
    (seeded .vector 2 8 16).aboveMinimums := by decide

end Sys2Proof.Tests
end

section
/-! What a command can do, said once: the state after a draw repeated, the meaning of each command through
`exec`, and the three ways a command ends (a fault, a seeding, draws). -/

namespace Sys2Proof.Machine

/-! ### Repeated draws -/

/-- What one draw keeps, every number of draws keeps. -/
theorem iterate_advance_keeps {α : Type} {g : State → α} (hg : ∀ s, g s.advance = g s) (k : Nat)
    (s : State) : g (State.advance^[k] s) = g s := by
  induction k with
  | zero => rfl
  | succ k ih => rw [Function.iterate_succ_apply', hg, ih]

@[simp] theorem iterate_advance_valid (k : Nat) (s : State) :
    (State.advance^[k] s).valid = s.valid :=
  iterate_advance_keeps State.advance_valid k s

@[simp] theorem iterate_advance_build (k : Nat) (s : State) :
    (State.advance^[k] s).build = s.build :=
  iterate_advance_keeps State.advance_build k s

@[simp] theorem iterate_advance_moves (k : Nat) (s : State) :
    (State.advance^[k] s).moves = s.moves :=
  iterate_advance_keeps State.advance_moves k s

@[simp] theorem iterate_advance_delivered (k : Nat) (s : State) :
    (State.advance^[k] s).delivered = s.delivered :=
  iterate_advance_keeps State.advance_delivered k s

/-- Draws never write the padding field of a `SCALAR` build (log 6). -/
theorem iterate_advance_pad_of_scalar {s : State} (h : s.build.engine = .scalar) (k : Nat) :
    (State.advance^[k] s).pad = s.pad := by
  induction k with
  | zero => rfl
  | succ k ih => simp [Function.iterate_succ_apply', h, ih]

/-- The loop of `FILL` leaves the state as its draws leave it (rule R92): what it emits writes nothing. -/
@[simp] theorem fillChunks_fst (d n : Nat) (s : State) :
    (fillChunks d n s).1 = State.advance^[d] s := by
  induction d generalizing n s with
  | zero => rfl
  | succ d ih => exact ih (n - 4) s.advance

/-! ### The meaning of each command -/

@[simp] theorem exec_seedb (b : Vector Byte 12) (s : State) :
    exec (.seedb b) s = execSeedb b s := rfl

@[simp] theorem exec_seedw (w1 w2 w3 : Word) (s : State) :
    exec (.seedw w1 w2 w3) s = execSeedw w1 w2 w3 s := rfl

@[simp] theorem exec_next32 (s : State) : exec .next32 s = execNext32 s := rfl

@[simp] theorem exec_next64 (s : State) : exec .next64 s = execNext64 s := rfl

@[simp] theorem exec_fill (n : Nat) (s : State) : exec (.fill n) s = execFill n s := rfl

/-! ### The three ways a command ends -/

/-- The status of `SEEDW` by the model's own validator (rules R52, R104). -/
theorem statusOf_seedw (v : Bool) (w1 w2 w3 : Word) :
    statusOf v (.seedw w1 w2 w3) = if seedValid w1 w2 w3 then .ok else .invalidSeed := by
  by_cases h : seedValid w1 w2 w3 = true
  · obtain ⟨h1, h2, h3⟩ := (seedValid_iff w1 w2 w3).mp h
    rw [if_pos h, statusOf, if_neg (by omega)]
  · rw [if_neg h, statusOf, if_pos (by rw [seedValid_iff] at h; omega)]

/-- A drawing command is answered `OK` exactly on a seeded block (rules R65, R66, R92, R102). -/
theorem statusOf_of_not_seeds {i : Instr} (hi : i.seeds = false) (v : Bool) :
    statusOf v i = if v then .ok else .notSeeded := by
  cases i with
  | seedb b => exact nomatch hi
  | seedw w1 w2 w3 => exact nomatch hi
  | next32 => rfl
  | next64 => rfl
  | fill n => rfl

/-- Rule R100: a command whose status in the table of rule R104 is a fault raises that fault. -/
theorem exec_of_fault {i : Instr} {s : State} (h : statusOf s.valid i ≠ .ok) :
    exec i s = .next (s.raise (statusOf s.valid i)) := by
  cases i with
  | seedb b => exact absurd rfl h
  | seedw w1 w2 w3 =>
    rw [statusOf_seedw] at h ⊢
    have hw : seedValid w1 w2 w3 = false := by simpa using h
    rw [exec_seedw, execSeedw_of_invalid hw, hw]; rfl
  | next32 =>
    have hv : s.valid = false := by simpa [statusOf] using h
    rw [exec_next32, execNext32_of_unseeded hv, hv]; rfl
  | next64 =>
    have hv : s.valid = false := by simpa [statusOf] using h
    rw [exec_next64, execNext64_of_unseeded hv, hv]; rfl
  | fill n =>
    have hv : s.valid = false := by simpa [statusOf] using h
    rw [exec_fill, execFill_of_unseeded hv, hv]; rfl

/-- Rules R53, R54: a seeding command answered `OK` loads three words and carries no data. -/
theorem exec_of_seeding {i : Instr} {s : State} (hi : i.seeds = true)
    (h : statusOf s.valid i = .ok) :
    ∃ w, exec i s = .next ((s.seed w).respond ⟨.ok, 0, []⟩) := by
  cases i with
  | seedb b => exact ⟨_, rfl⟩
  | seedw w1 w2 w3 =>
    have hw : seedValid w1 w2 w3 = true := by simpa [statusOf_seedw] using h
    exact ⟨_, execSeedw_of_valid hw s⟩
  | next32 => exact nomatch hi
  | next64 => exact nomatch hi
  | fill n => exact nomatch hi

/-- Rules R65, R66, R92: a drawing command on a seeded block makes its draws and answers `OK`. -/
theorem exec_of_drawing {i : Instr} {s : State} (hi : i.seeds = false) (hv : s.valid = true) :
    ∃ r, r.status = .ok ∧ exec i s = .next ((State.advance^[i.draws] s).respond r) := by
  cases i with
  | seedb b => exact nomatch hi
  | seedw w1 w2 w3 => exact nomatch hi
  | next32 => exact ⟨_, rfl, execNext32_of_seeded hv⟩
  | next64 => exact ⟨_, rfl, execNext64_of_seeded hv⟩
  | fill n =>
    refine ⟨⟨.ok, 0, (fillChunks (drawsFor n) n s).2⟩, rfl, ?_⟩
    rw [exec_fill, execFill_of_seeded hv, fillChunks_fst]; rfl

/-- Everything a command can do: raise the fault its status names, seed, or draw. -/
theorem exec_cases (i : Instr) (s : State) :
    (statusOf s.valid i ≠ .ok ∧ exec i s = .next (s.raise (statusOf s.valid i))) ∨
    (i.seeds = true ∧ statusOf s.valid i = .ok ∧
      ∃ w, exec i s = .next ((s.seed w).respond ⟨.ok, 0, []⟩)) ∨
    (i.seeds = false ∧ s.valid = true ∧
      ∃ r, r.status = .ok ∧ exec i s = .next ((State.advance^[i.draws] s).respond r)) := by
  by_cases h : statusOf s.valid i = .ok
  · cases hi : i.seeds with
    | true => exact .inr (.inl ⟨rfl, h, exec_of_seeding hi h⟩)
    | false =>
      have hv : s.valid = true := by simpa [statusOf_of_not_seeds hi] using h
      exact .inr (.inr ⟨rfl, hv, exec_of_drawing hi hv⟩)
  · exact .inl ⟨h, exec_of_fault h⟩

end Sys2Proof.Machine
end

section
/-! The frame of the five commands, from the three ways a command ends. -/

namespace Sys2Proof.Machine

/-- Settles O56: a fault writes a response only, a seeding loads words in the build's own lanes, and a
drawing command writes what its draws write, which is nothing where there are none. -/
theorem commandFrame : Obligations.CommandFrame := by
  intro i s
  obtain ⟨-, he⟩ | ⟨hi, -, w, he⟩ | ⟨hi, hv, r, hr, he⟩ := exec_cases i s
  · exact ⟨_, _, he, rfl, by simp⟩
  · refine ⟨_, ⟨.ok, 0, []⟩, he, by simp, by simp, by simp, ?_, by simp [hi], by simp [hi], by simp⟩
    exact fun hs => by simp [hs]
  · refine ⟨_, r, he, by simp, by simp, by simp, ?_, by simp, ?_, by simp [hr]⟩
    · exact fun hs => iterate_advance_pad_of_scalar hs i.draws
    · intro _ hno
      have hd : i.draws = 0 := hno.resolve_left (by simp [hv])
      simp [hd]

end Sys2Proof.Machine
end

section
/-! One step, by the host's next move, and its totality. -/

namespace Sys2Proof.Machine

theorem step_of_nil {s : State} (h : s.moves = []) : step s = .next s := by
  simp [step, h]

theorem step_of_reset {s : State} {ms : List Move} (h : s.moves = .reset :: ms) :
    step s = .next s.takeMove.resetEvent := by
  simp [step, h]

theorem step_of_command {s : State} {w : CmdWord} {ms : List Move} {i : Instr}
    (h : s.moves = .cmd w :: ms) (hw : decode s.build w = .ok i) :
    step s = exec i s.takeMove := by
  simp [step, h, State.decodeWord, hw]

theorem step_of_rejected {s : State} {w : CmdWord} {ms : List Move} {e : Reject}
    (h : s.moves = .cmd w :: ms) (hw : decode s.build w = .error e) :
    step s = .next (s.takeMove.rejectWord e) := by
  simp [step, h, State.decodeWord, hw]

/-- Rule R45: a step with a command word next, whether or not it is a command, takes the word and
produces one response. -/
theorem step_of_word {s : State} {w : CmdWord} {ms : List Move} (h : s.moves = .cmd w :: ms) :
    ∃ t r, step s = .next t ∧ t.moves = s.moves.tail ∧ t.build = s.build ∧
      t.delivered = s.delivered ++ [r] := by
  cases hw : decode s.build w with
  | ok i =>
    obtain ⟨t, r, he, hd, hb, hm, -⟩ := commandFrame i s.takeMove
    exact ⟨t, r, (step_of_command h hw).trans he, hm, hb, hd⟩
  | error e => exact ⟨_, _, step_of_rejected h hw, rfl, rfl, rfl⟩

/-- Settles O14, by the host's next move: a command word adds one response, a reset and the end of the
moves (log 2) add none. -/
theorem stepIsTotal : Obligations.StepIsTotal := by
  intro s
  cases hm : s.moves with
  | nil => exact ⟨s, [], step_of_nil hm, by simp [hm], rfl, by simp, by simp, fun _ => rfl⟩
  | cons m ms =>
    cases m with
    | cmd w =>
      obtain ⟨t, r, hs, ht, hb, hd⟩ := step_of_word hm
      exact ⟨t, [r], hs, by simpa [hm] using ht, hb, hd, fun _ => rfl, by simp⟩
    | reset =>
      exact ⟨_, [], step_of_reset hm, by simp [hm], by simp, by simp, by simp, fun _ => rfl⟩

end Sys2Proof.Machine
end

section
/-! The primitives of spec/00_scope.md. -/

namespace Sys2Proof.Machine

theorem and32_getLsbD (a b : Word) (i : Nat) :
    (and32 a b).getLsbD i = (a.getLsbD i && b.getLsbD i) := BitVec.getLsbD_and

theorem xor32_getLsbD (a b : Word) (i : Nat) :
    (xor32 a b).getLsbD i = (a.getLsbD i ^^ b.getLsbD i) := BitVec.getLsbD_xor

theorem shl32_toNat (a : Word) (n : Nat) : (shl32 a n).toNat = a.toNat * 2 ^ n % 2 ^ 32 := by
  rw [shl32, BitVec.toNat_shiftLeft, Nat.shiftLeft_eq]

theorem shr32_toNat (a : Word) (n : Nat) : (shr32 a n).toNat = a.toNat / 2 ^ n := by
  rw [shr32, BitVec.toNat_ushiftRight, Nat.shiftRight_eq_div_pow]

/-- Settles O22: each primitive by its own rule, the shifts for every amount. -/
theorem primitives : Obligations.Primitives :=
  ⟨fun a b i => ⟨and32_getLsbD a b i, xor32_getLsbD a b i⟩,
    fun a n _ => ⟨shl32_toNat a n, shr32_toNat a n⟩, umax32_toNat⟩

end Sys2Proof.Machine
end

section
/-! The seed minimums through a draw (spec/41_scalar_engine.md rule R69). The three component functions are
one formula at three choices of the amounts, so what is said of the formula bit by bit is said once. -/

namespace Sys2Proof.Machine

/-- The formula of rules R60 to R62: `m` low bits masked, shifts left by `p` and `q`, shift right by `r`. -/
def component (m p q r : Nat) (z : Word) : Word :=
  xor32 (shl32 (and32 z (BitVec.allOnes 32 <<< m)) p) (shr32 (xor32 (shl32 z q) z) r)

theorem f1_eq_component (z : Word) : f1 z = component 1 12 13 19 z := rfl

theorem f2_eq_component (z : Word) : f2 z = component 3 4 2 25 z := rfl

theorem f3_eq_component (z : Word) : f3 z = component 4 17 3 11 z := rfl

theorem maskedShift_getLsbD (m p i : Nat) (z : Word) :
    (shl32 (and32 z (BitVec.allOnes 32 <<< m)) p).getLsbD i =
      (decide (m + p ≤ i ∧ i < 32) && z.getLsbD (i - p)) := by
  simp only [shl32, and32, BitVec.getLsbD_shiftLeft, BitVec.getLsbD_and, BitVec.getLsbD_allOnes]
  by_cases hi : m + p ≤ i ∧ i < 32
  · have hmask : ¬ i < p ∧ ¬ i - p < m ∧ i - p < 32 ∧ i - p - m < 32 := by omega
    simp [hi, hmask]
  · simp [hi]
    omega

theorem feedback_getLsbD {q r : Nat} (hqr : q ≤ r) (i : Nat) (z : Word) :
    (shr32 (xor32 (shl32 z q) z) r).getLsbD i =
      (decide (r + i < 32) && (z.getLsbD (r + i - q) ^^ z.getLsbD (r + i))) := by
  have hq : ¬ r + i < q := by omega
  simp only [shr32, xor32, shl32, BitVec.getLsbD_ushiftRight, BitVec.getLsbD_xor,
    BitVec.getLsbD_shiftLeft, hq]
  by_cases hi : r + i < 32
  · simp [hi]
  · simp [hi, z.getLsbD_of_ge (r + i) (by omega)]

/-- The high bits of a component are bits of the masked word, moved up by `p`. -/
theorem component_getLsbD_high {m p q r i : Nat} (hr : m + p + r = 32) (hqr : q ≤ r) (hi : m + p ≤ i)
    (hi' : i < 32) (z : Word) : (component m p q r z).getLsbD i = z.getLsbD (i - p) := by
  have hfb : ¬ r + i < 32 := by omega
  simp only [component, xor32_getLsbD, maskedShift_getLsbD, feedback_getLsbD hqr]
  simp [hi, hi', hfb]

/-- The low bits of a component are those the feedback brings down. -/
theorem component_getLsbD_low {m p q r i : Nat} (hr : m + p + r = 32) (hqr : q ≤ r) (hi : i < m + p)
    (z : Word) :
    (component m p q r z).getLsbD i = (z.getLsbD (r + i - q) ^^ z.getLsbD (r + i)) := by
  have hmask : ¬ m + p ≤ i := by omega
  have hfb : r + i < 32 := by omega
  simp only [component, xor32_getLsbD, maskedShift_getLsbD, feedback_getLsbD hqr]
  simp [hmask, hfb]

theorem toNat_lt_two_pow_iff (z : Word) (m : Nat) :
    z.toNat < 2 ^ m ↔ ∀ j, m ≤ j → z.getLsbD j = false :=
  ⟨fun h j hj => Nat.testBit_lt_two_pow (h.trans_le (Nat.pow_le_pow_right (by decide) hj)),
    fun h => Nat.lt_pow_two_of_testBit _ h⟩

/-- A component with no live bit comes from a word with none: the high bits say so of the bits up to
`m + r`, and the feedback carries it upwards, `q` bits at a time. -/
theorem toNat_lt_of_component_lt {m p q r : Nat} (hr : m + p + r = 32) (hq : 1 ≤ q) (hqr : q ≤ r)
    {z : Word} (h : (component m p q r z).toNat < 2 ^ m) : z.toNat < 2 ^ m := by
  rw [toNat_lt_two_pow_iff] at h ⊢
  intro j
  induction j using Nat.strong_induction_on with
  | _ j ih =>
    intro hj
    by_cases hhigh : j + p < 32
    · have hbit := h (j + p) (by omega)
      rwa [component_getLsbD_high hr hqr (by omega) hhigh, Nat.add_sub_cancel] at hbit
    · by_cases hlow : j < 32
      · have hbit := h (j - r) (by omega)
        rw [component_getLsbD_low hr hqr (by omega), Nat.add_sub_cancel' (by omega)] at hbit
        simpa [ih (j - q) (by omega) (by omega)] using hbit
      · exact z.getLsbD_of_ge j (by omega)

/-- Rule R69: a word with a live bit goes to a word with a live bit. -/
theorem two_pow_le_component {m p q r : Nat} (hr : m + p + r = 32) (hq : 1 ≤ q) (hqr : q ≤ r)
    {z : Word} (h : 2 ^ m ≤ z.toNat) : 2 ^ m ≤ (component m p q r z).toNat :=
  not_lt.mp fun hc => absurd (toNat_lt_of_component_lt hr hq hqr hc) (not_lt.mpr h)

theorem two_le_f1 {z : Word} (h : 2 ≤ z.toNat) : 2 ≤ (f1 z).toNat := by
  rw [f1_eq_component]
  exact two_pow_le_component (m := 1) rfl (by decide) (by decide) h

theorem eight_le_f2 {z : Word} (h : 8 ≤ z.toNat) : 8 ≤ (f2 z).toNat := by
  rw [f2_eq_component]
  exact two_pow_le_component (m := 3) rfl (by decide) (by decide) h

theorem sixteen_le_f3 {z : Word} (h : 16 ≤ z.toNat) : 16 ≤ (f3 z).toNat := by
  rw [f3_eq_component]
  exact two_pow_le_component (m := 4) rfl (by decide) (by decide) h

end Sys2Proof.Machine
end

section
/-! What a command answers, as a function of the words: which words a seeding loads, and that blocks with
the same words draw alike, whatever their engine, padding lane and channels hold. -/

namespace Sys2Proof.Machine

/-! ### Blocks that hold the same words -/

/-- The three words are the same; the rest of the two blocks may differ. -/
def State.SameWords (s t : State) : Prop := s.z1 = t.z1 ∧ s.z2 = t.z2 ∧ s.z3 = t.z3

theorem State.SameWords.refl (s : State) : s.SameWords s := ⟨rfl, rfl, rfl⟩

theorem State.SameWords.advance {s t : State} (h : s.SameWords t) : s.advance.SameWords t.advance := by
  obtain ⟨h1, h2, h3⟩ := h
  simp [State.SameWords, h1, h2, h3]

theorem State.SameWords.iterate_advance {s t : State} (h : s.SameWords t) (k : Nat) :
    (State.advance^[k] s).SameWords (State.advance^[k] t) := by
  induction k with
  | zero => exact h
  | succ k ih => simpa only [Function.iterate_succ_apply'] using ih.advance

theorem State.SameWords.seed (s t : State) (w : Word × Word × Word) :
    (s.seed w).SameWords (t.seed w) := by
  simp [State.SameWords]

/-- Rule R82: the output is one function of the words in both builds. -/
theorem State.SameWords.output_eq {s t : State} (h : s.SameWords t) : s.output = t.output := by
  obtain ⟨h1, h2, h3⟩ := h
  simp [State.output_eq, h1, h2, h3]

theorem State.SameWords.fillChunks_eq {s t : State} (h : s.SameWords t) (d n : Nat) :
    (fillChunks d n s).2 = (fillChunks d n t).2 := by
  induction d generalizing n s t with
  | zero => rfl
  | succ d ih => simp [fillChunks, h.advance.output_eq, ih h.advance]

/-! ### The forms of a response -/

theorem Response.wf_of_empty (f : Status) : Response.wf ⟨f, 0, []⟩ := by simp [Response.wf]

theorem Response.wf_of_word (d : DWord) : Response.wf ⟨.ok, d, []⟩ := by simp [Response.wf]

theorem Response.wf_of_bytes (b : List Byte) : Response.wf ⟨.ok, 0, b⟩ := by simp [Response.wf]

/-! ### Seeding and drawing -/

/-- Three words a seeding may load (rule R17). -/
def WordsAboveMinimums (w : Word × Word × Word) : Prop :=
  2 ≤ w.1.toNat ∧ 8 ≤ w.2.1.toNat ∧ 16 ≤ w.2.2.toNat

/-- Rules R51 to R54: the words a successful seeding loads are above the minimums and come from the command
alone. -/
theorem exec_of_seeding_words {i : Instr} {v : Bool} (hi : i.seeds = true) (h : statusOf v i = .ok) :
    ∃ w : Word × Word × Word, WordsAboveMinimums w ∧
      ∀ s, exec i s = .next ((s.seed w).respond ⟨.ok, 0, []⟩) := by
  cases i with
  | seedb b =>
    refine ⟨promote _ _ _, ?_, fun _ => rfl⟩
    simp [WordsAboveMinimums, promote, umax32_toNat, min1, min2, min3]
  | seedw w1 w2 w3 =>
    have hw : seedValid w1 w2 w3 = true := by simpa [statusOf_seedw] using h
    exact ⟨(w1, w2, w3), (seedValid_iff w1 w2 w3).mp hw, execSeedw_of_valid hw⟩
  | next32 => exact nomatch hi
  | next64 => exact nomatch hi
  | fill n => exact nomatch hi

/-- Rules R72, R82: two seeded blocks with the same words give a drawing command the same response. -/
theorem exec_of_drawing_sameWords {i : Instr} {s t : State} (hi : i.seeds = false)
    (hs : s.valid = true) (ht : t.valid = true) (h : s.SameWords t) :
    ∃ r : Response, r.wf ∧ exec i s = .next ((State.advance^[i.draws] s).respond r) ∧
      exec i t = .next ((State.advance^[i.draws] t).respond r) := by
  cases i with
  | seedb b => exact nomatch hi
  | seedw w1 w2 w3 => exact nomatch hi
  | next32 =>
    refine ⟨_, Response.wf_of_word _, execNext32_of_seeded hs, ?_⟩
    rw [h.advance.output_eq]
    exact execNext32_of_seeded ht
  | next64 =>
    refine ⟨_, Response.wf_of_word _, execNext64_of_seeded hs, ?_⟩
    rw [h.advance.output_eq, h.advance.advance.output_eq]
    exact execNext64_of_seeded ht
  | fill n =>
    refine ⟨⟨.ok, 0, (fillChunks (drawsFor n) n s).2⟩, Response.wf_of_bytes _, ?_, ?_⟩
    · rw [exec_fill, execFill_of_seeded hs, fillChunks_fst]; rfl
    · rw [exec_fill, execFill_of_seeded ht, fillChunks_fst, h.fillChunks_eq]; rfl

theorem State.seed_aboveMinimums {w : Word × Word × Word}
    (hw : WordsAboveMinimums w) (s : State) :
    (s.seed w).aboveMinimums := by
  simpa [State.aboveMinimums, WordsAboveMinimums] using hw

/-- What the answers of a block depend on: its flag and, while that is set, its words. -/
def State.AnswersAlike (s t : State) : Prop := s.valid = t.valid ∧ (s.valid = true → s.SameWords t)

theorem State.AnswersAlike.refl (s : State) : s.AnswersAlike s := ⟨rfl, fun _ => .refl s⟩

theorem valid_of_drawing_ok {i : Instr} {v : Bool} (hi : i.seeds = false) (h : statusOf v i = .ok) :
    v = true := by
  simpa [statusOf_of_not_seeds hi] using h

/-- The three ways a command ends, for two blocks that answer alike: the same fault, a seeding with the same
words, or as many draws with the same response. -/
theorem exec_cases_of_answersAlike (i : Instr) {s t : State} (h : s.AnswersAlike t) :
    (∃ f, exec i s = .next (s.raise f) ∧ exec i t = .next (t.raise f)) ∨
    (∃ w : Word × Word × Word, WordsAboveMinimums w ∧
      exec i s = .next ((s.seed w).respond ⟨.ok, 0, []⟩) ∧
      exec i t = .next ((t.seed w).respond ⟨.ok, 0, []⟩)) ∨
    (∃ (k : Nat) (r : Response), s.valid = true ∧ r.wf ∧
      exec i s = .next ((State.advance^[k] s).respond r) ∧
      exec i t = .next ((State.advance^[k] t).respond r)) := by
  obtain ⟨hv, hw⟩ := h
  by_cases hok : statusOf s.valid i = .ok
  · cases hi : i.seeds with
    | true =>
      obtain ⟨w, hmin, he⟩ := exec_of_seeding_words hi hok
      exact .inr (.inl ⟨w, hmin, he s, he t⟩)
    | false =>
      have hs : s.valid = true := valid_of_drawing_ok hi hok
      obtain ⟨r, hr, hes, het⟩ := exec_of_drawing_sameWords hi hs (hv ▸ hs) (hw hs)
      exact .inr (.inr ⟨i.draws, r, hs, hr, hes, het⟩)
  · refine .inl ⟨statusOf s.valid i, exec_of_fault hok, ?_⟩
    rw [hv] at hok ⊢
    exact exec_of_fault hok

/-- Settles O39: the words a successful seeding loads are above the minimums, whatever the state was. -/
theorem seedingEstablishesMinimums : Obligations.SeedingEstablishesMinimums := by
  intro i s hi hok
  obtain ⟨w, hw, he⟩ := exec_of_seeding_words hi hok
  exact ⟨_, he s, by simp, State.seed_aboveMinimums hw s⟩

end Sys2Proof.Machine
end

section
/-! The invariant of the block: each operation keeps it, so each command and each step does. -/

namespace Sys2Proof.Machine

theorem State.Inv.of_unseeded {s : State} (hb : s.build.wf = true) (hv : s.valid = false)
    (hd : ∀ r ∈ s.delivered, r.wf) : s.Inv :=
  ⟨hb, by simp [hv], by simp [hv], hd⟩

theorem State.Inv.respond {s : State} (h : s.Inv) {r : Response} (hr : r.wf) : (s.respond r).Inv := by
  obtain ⟨hb, hw, hp, hd⟩ := h
  refine ⟨hb, hw, hp, fun x hx => ?_⟩
  obtain hx | hx := List.mem_append.mp hx
  · exact hd x hx
  · exact List.mem_singleton.mp hx ▸ hr

theorem State.Inv.raise {s : State} (h : s.Inv) (f : Status) : (s.raise f).Inv :=
  h.respond (Response.wf_of_empty f)

theorem State.Inv.takeMove {s : State} (h : s.Inv) : s.takeMove.Inv := h

theorem State.Inv.resetEvent {s : State} (h : s.Inv) : s.resetEvent.Inv := by
  obtain ⟨hb, -, -, hd⟩ := h
  exact .of_unseeded hb rfl hd

/-- A seeding with words above the minimums needs no minimums before it, and clears the padding lane. -/
theorem State.Inv.seed {s : State} (h : s.Inv) {w : Word × Word × Word}
    (hw : WordsAboveMinimums w) : (s.seed w).Inv := by
  obtain ⟨hb, -, -, hd⟩ := h
  refine ⟨by simpa using hb, fun _ => State.seed_aboveMinimums hw s, fun _ he => ?_, by simpa using hd⟩
  rw [State.seed_build] at he
  simp [he]

theorem State.aboveMinimums.advance {s : State} (h : s.aboveMinimums) : s.advance.aboveMinimums := by
  obtain ⟨h1, h2, h3⟩ := h
  simpa [State.aboveMinimums] using And.intro (two_le_f1 h1) ⟨eight_le_f2 h2, sixteen_le_f3 h3⟩

theorem State.Inv.advance {s : State} (h : s.Inv) : s.advance.Inv := by
  obtain ⟨hb, hw, -, hd⟩ := h
  refine ⟨by simpa using hb, fun hv => (hw ?_).advance, fun _ he => ?_, by simpa using hd⟩
  · simpa using hv
  · rw [State.advance_build] at he
    simp [he]

theorem State.Inv.iterate_advance {s : State} (h : s.Inv) (k : Nat) : (State.advance^[k] s).Inv := by
  induction k with
  | zero => exact h
  | succ k ih => exact Function.iterate_succ_apply' State.advance k s ▸ ih.advance

theorem exec_keeps_inv (i : Instr) {s : State} (h : s.Inv) : ∃ t, exec i s = .next t ∧ t.Inv := by
  obtain ⟨f, he, -⟩ | ⟨w, hw, he, -⟩ | ⟨k, r, -, hr, he, -⟩ := exec_cases_of_answersAlike i (.refl s)
  · exact ⟨_, he, h.raise f⟩
  · exact ⟨_, he, (h.seed hw).respond (Response.wf_of_empty .ok)⟩
  · exact ⟨_, he, (h.iterate_advance k).respond hr⟩

theorem step_keeps_inv {s : State} (h : s.Inv) : ∃ t, step s = .next t ∧ t.Inv := by
  cases hm : s.moves with
  | nil => exact ⟨s, step_of_nil hm, h⟩
  | cons m ms =>
    cases m with
    | cmd w =>
      cases hw : decode s.build w with
      | ok i => exact step_of_command hm hw ▸ exec_keeps_inv i h.takeMove
      | error e => exact ⟨_, step_of_rejected hm hw, h.takeMove.raise .illegalCommand⟩
    | reset => exact ⟨_, step_of_reset hm, h.takeMove.resetEvent⟩

/-- Settles O18, by the host's next move and, for a command, by the three ways it ends. -/
theorem stepKeepsInvariant : Obligations.StepKeepsInvariant := by
  intro s t h hst
  obtain ⟨u, hsu, hu⟩ := step_keeps_inv h
  obtain rfl : t = u := Host.Outcome.next.inj (hst.symm.trans hsu)
  exact hu

/-- Settles O17: a block that is not seeded has only its build and its responses to answer for. -/
theorem invariantAtReset : Obligations.InvariantAtReset := State.Inv.of_unseeded rfl rfl nofun

end Sys2Proof.Machine
end

section
/-! What a host can tell apart: commands and steps keep two blocks alike, and so do runs. -/

namespace Sys2Proof.Machine

/-! ### One command on two blocks -/

/-- Rule R73 and the faults of rule R100: no command takes a seeded block's flag away. -/
theorem exec_valid_of_valid {i : Instr} {s t : State} (hs : s.valid = true) (he : exec i s = .next t) :
    t.valid = true := by
  obtain ⟨-, h⟩ | ⟨-, -, w, h⟩ | ⟨-, -, r, -, h⟩ := exec_cases i s
  all_goals obtain rfl := Host.Outcome.next.inj (he.symm.trans h)
  · exact hs
  · exact State.seed_valid s w
  · simpa using hs

theorem exec_keeps_build_moves {i : Instr} {s t : State} (he : exec i s = .next t) :
    t.build = s.build ∧ t.moves = s.moves := by
  obtain ⟨u, r, hu, -, hb, hm, -⟩ := commandFrame i s
  obtain rfl := Host.Outcome.next.inj (he.symm.trans hu)
  exact ⟨hb, hm⟩

/-- Rules R72, R82: blocks that answer alike give a command one and the same response and answer alike after
it; words that agreed, seeded or not, agree still. -/
theorem exec_of_answersAlike (i : Instr) {s t : State} (h : s.AnswersAlike t) :
    ∃ s' t' r, exec i s = .next s' ∧ exec i t = .next t' ∧
      s'.delivered = s.delivered ++ [r] ∧ t'.delivered = t.delivered ++ [r] ∧
      s'.AnswersAlike t' ∧ (s.SameWords t → s'.SameWords t') := by
  obtain ⟨f, hs, ht⟩ | ⟨w, -, hs, ht⟩ | ⟨k, r, hv, -, hs, ht⟩ := exec_cases_of_answersAlike i h
  · exact ⟨_, _, _, hs, ht, rfl, rfl, h, id⟩
  · have hw : (s.seed w).SameWords (t.seed w) := .seed s t w
    exact ⟨_, _, ⟨.ok, 0, []⟩, hs, ht, by simp, by simp, ⟨by simp, fun _ => hw⟩, fun _ => hw⟩
  · have hw : (State.advance^[k] s).SameWords (State.advance^[k] t) := (h.2 hv).iterate_advance k
    exact ⟨_, _, r, hs, ht, by simp, by simp, ⟨by simpa using h.1, fun _ => hw⟩, fun _ => hw⟩

/-! ### One step of two blocks -/

/-- Two blocks in one host's view: the same channels, and the same answers to come (rules R18, R82). -/
theorem State.sameToHost_iff (s t : State) :
    s.SameToHost t ↔ s.build.lenW = t.build.lenW ∧ s.moves = t.moves ∧ s.delivered = t.delivered ∧
      s.AnswersAlike t := Iff.rfl

/-- The decoder reads nothing of the build but `LEN_W` (rule R39). -/
theorem decode_congr {b c : Build} (h : b.lenW = c.lenW) (w : CmdWord) : decode b w = decode c w := by
  simp [decode, lengthOf, h]

theorem exec_of_sameToHost (i : Instr) {s t : State} (h : s.SameToHost t) :
    ∃ s' t', exec i s = .next s' ∧ exec i t = .next t' ∧ s'.SameToHost t' ∧
      (s.SameWords t → s'.SameWords t') := by
  obtain ⟨hl, hm, hd, ha⟩ := (s.sameToHost_iff t).mp h
  obtain ⟨s', t', r, hs, ht, hds, hdt, ha', hw⟩ := exec_of_answersAlike i ha
  obtain ⟨hbs, hms⟩ := exec_keeps_build_moves hs
  obtain ⟨hbt, hmt⟩ := exec_keeps_build_moves ht
  refine ⟨s', t', hs, ht, (s'.sameToHost_iff t').mpr ⟨?_, ?_, ?_, ha'⟩, hw⟩
  · rw [hbs, hbt, hl]
  · rw [hms, hmt, hm]
  · rw [hds, hdt, hd]

theorem State.SameToHost.takeMove {s t : State} (h : s.SameToHost t) : s.takeMove.SameToHost t.takeMove := by
  obtain ⟨hl, hm, hd, ha⟩ := h
  exact ⟨hl, congrArg List.tail hm, hd, ha⟩

theorem State.SameToHost.raise {s t : State} (h : s.SameToHost t) (f : Status) :
    (s.raise f).SameToHost (t.raise f) := by
  obtain ⟨hl, hm, hd, ha⟩ := h
  exact ⟨hl, hm, congrArg (· ++ [(⟨f, 0, []⟩ : Response)]) hd, ha⟩

theorem State.SameToHost.resetEvent {s t : State} (h : s.SameToHost t) :
    s.resetEvent.SameToHost t.resetEvent := by
  obtain ⟨hl, hm, hd, -⟩ := h
  exact ⟨hl, hm, hd, rfl, nofun⟩

/-- A step keeps two blocks alike to the host; words that agreed, seeded or not, agree still. -/
theorem step_of_sameToHost {s t : State} (h : s.SameToHost t) :
    ∃ s' t', step s = .next s' ∧ step t = .next t' ∧ s'.SameToHost t' ∧
      (s.SameWords t → s'.SameWords t') := by
  obtain ⟨hl, hmoves, -⟩ := (s.sameToHost_iff t).mp h
  cases hm : s.moves with
  | nil => exact ⟨s, t, step_of_nil hm, step_of_nil (hmoves ▸ hm), h, id⟩
  | cons m ms =>
    have hmt : t.moves = m :: ms := hmoves ▸ hm
    cases m with
    | cmd w =>
      have hdec : decode t.build w = decode s.build w := (decode_congr hl w).symm
      cases hw : decode s.build w with
      | ok i =>
        rw [step_of_command hm hw, step_of_command hmt (hdec.trans hw)]
        exact exec_of_sameToHost i h.takeMove
      | error e =>
        exact ⟨_, _, step_of_rejected hm hw, step_of_rejected hmt (hdec.trans hw),
          h.takeMove.raise .illegalCommand, id⟩
    | reset =>
      exact ⟨_, _, step_of_reset hm, step_of_reset hmt, h.takeMove.resetEvent, fun _ => ⟨rfl, rfl, rfl⟩⟩

/-- Settles O19: a step of two blocks that are alike to the host, forgetting the words of unseeded ones. -/
theorem stepKeepsHostView : Obligations.StepKeepsHostView := by
  intro s t h
  obtain ⟨s', t', hs, ht, h', -⟩ := step_of_sameToHost h
  exact ⟨s', t', hs, ht, h'⟩

/-! ### Runs of two blocks -/

theorem run_succ_of_step {s s' : State} (h : step s = .next s') (k : Nat) :
    Host.Core.run core (k + 1) s = Host.Core.run core k s' := by
  have hcore : core.step s = .next s' := h
  simp [Host.Core.run, hcore]

theorem run_of_sameToHost (k : Nat) {s t : State} (h : s.SameToHost t) (hw : s.SameWords t) :
    ∃ s' t' : State, Host.Core.run core k s = .next s' ∧ Host.Core.run core k t = .next t' ∧
      s'.SameToHost t' ∧ s'.SameWords t' := by
  induction k generalizing s t with
  | zero => exact ⟨s, t, rfl, rfl, h, hw⟩
  | succ k ih =>
    obtain ⟨s', t', hs, ht, h', hw'⟩ := step_of_sameToHost h
    rw [run_succ_of_step hs, run_succ_of_step ht]
    exact ih h' (hw' hw)

/-- Settles O20: the two builds start alike to the host and with the same words, and a run keeps both. -/
theorem enginesAgreeOnEveryRun : Obligations.EnginesAgreeOnEveryRun := by
  intro k s p
  obtain ⟨t, u, ht, hu, ⟨-, hm, hd, hv, -⟩, hw⟩ := run_of_sameToHost k
    (s := { s with build := { s.build with engine := .scalar } })
    (t := { s with build := { s.build with engine := .vector }, pad := p })
    ⟨rfl, rfl, rfl, rfl, fun _ => ⟨rfl, rfl, rfl⟩⟩ ⟨rfl, rfl, rfl⟩
  exact ⟨t, u, ht, hu, hd, hv, hm, hw⟩

theorem runCommands_cons {i : Instr} {s s' : State} (h : exec i s = .next s') (is : List Instr) :
    runCommands (i :: is) s = runCommands is s' := by
  rw [runCommands, h]

/-- Rule R72: two seeded blocks with the same words answer a list of commands alike. -/
theorem runCommands_of_sameWords (is : List Instr) {s t : State} (hs : s.valid = true)
    (ht : t.valid = true) (h : s.SameWords t) :
    ∃ s' t' rs, runCommands is s = some s' ∧ runCommands is t = some t' ∧
      s'.delivered = s.delivered ++ rs ∧ t'.delivered = t.delivered ++ rs ∧
      s'.SameWords t' ∧ s'.valid = true ∧ t'.valid = true := by
  induction is generalizing s t with
  | nil => exact ⟨s, t, [], rfl, rfl, by simp, by simp, h, hs, ht⟩
  | cons i is ih =>
    obtain ⟨s1, t1, r, hes, het, hds, hdt, -, hw⟩ :=
      exec_of_answersAlike i ⟨hs.trans ht.symm, fun _ => h⟩
    obtain ⟨s', t', rs, hrs, hrt, hds', hdt', hend⟩ :=
      ih (exec_valid_of_valid hs hes) (exec_valid_of_valid ht het) (hw h)
    refine ⟨s', t', r :: rs, (runCommands_cons hes is).trans hrs, (runCommands_cons het is).trans hrt,
      ?_, ?_, hend⟩
    · simp [hds', hds]
    · simp [hdt', hdt]

/-- Settles O21: a successful seeding leaves any two blocks seeded with the same words. -/
theorem seedDeterminesResponses : Obligations.SeedDeterminesResponses := by
  intro s t i is hi hok
  obtain ⟨w, -, he⟩ := exec_of_seeding_words hi hok
  obtain ⟨s', t', rs, hs, ht, hds, hdt, ⟨h1, h2, h3⟩, hvs, hvt⟩ :=
    runCommands_of_sameWords is (s := (s.seed w).respond ⟨.ok, 0, []⟩)
      (t := (t.seed w).respond ⟨.ok, 0, []⟩) (by simp) (by simp) (.seed s t w)
  refine ⟨s', t', ⟨.ok, 0, []⟩ :: rs, (runCommands_cons (he s) is).trans hs,
    (runCommands_cons (he t) is).trans ht, ?_, ?_, h1, h2, h3, hvs, hvt⟩
  · simp [hds]
  · simp [hdt]

end Sys2Proof.Machine
end

section
/-! The flag: what sets it, what clears it, and that it is clear right after reset. -/

namespace Sys2Proof.Machine

/-- A command sets the flag of an unseeded block only as a successful seeding. -/
theorem exec_sets_valid {i : Instr} {s t : State} (hs : s.valid = false) (he : exec i s = .next t)
    (ht : t.valid = true) : i.seeds = true ∧ statusOf s.valid i = .ok := by
  obtain ⟨-, h⟩ | ⟨hi, hok, -⟩ | ⟨-, hv, -⟩ := exec_cases i s
  · obtain rfl := Host.Outcome.next.inj (he.symm.trans h)
    simp [hs] at ht
  · exact ⟨hi, hok⟩
  · simp [hs] at hv

/-- Settles O15, by the host's next move: without one, or with a reserved word, the flag stays. -/
theorem validFlagChanges : Obligations.ValidFlagChanges := by
  intro s t hst
  cases hm : s.moves with
  | nil =>
    obtain rfl := Host.Outcome.next.inj (hst.symm.trans (step_of_nil hm))
    exact ⟨fun hs ht => by simp [hs] at ht, fun hs ht => by simp [hs] at ht⟩
  | cons m ms =>
    cases m with
    | reset =>
      obtain rfl := Host.Outcome.next.inj (hst.symm.trans (step_of_reset hm))
      exact ⟨fun _ ht => by simp at ht, fun _ _ => ⟨ms, rfl⟩⟩
    | cmd w =>
      cases hw : decode s.build w with
      | ok i =>
        have he : exec i s.takeMove = .next t := (step_of_command hm hw).symm.trans hst
        refine ⟨fun hs ht => ?_, fun hs ht => ?_⟩
        · obtain ⟨hi, hok⟩ := exec_sets_valid (s := s.takeMove) hs he ht
          exact ⟨w, ms, i, rfl, hw, hi, hok⟩
        · have hv : t.valid = true := exec_valid_of_valid (s := s.takeMove) hs he
          simp [ht] at hv
      | error e =>
        obtain rfl := Host.Outcome.next.inj (hst.symm.trans (step_of_rejected hm hw))
        exact ⟨fun hs ht => by simp [hs] at ht, fun hs ht => by simp [hs] at ht⟩

theorem opField_toNat (w : CmdWord) : (opField w).toNat = opNumber w := by
  have hw : w.toNat < 2 ^ 99 := w.isLt
  rw [opField, opNumber, BitVec.extractLsb'_toNat, Nat.shiftRight_eq_div_pow]
  omega

/-- Rule R36: opcodes 3, 4 and 5 are the drawing commands. -/
theorem decode_drawing (b : Build) {w : CmdWord}
    (hw : opNumber w = 3 ∨ opNumber w = 4 ∨ opNumber w = 5) :
    ∃ i, decode b w = .ok i ∧ i.seeds = false := by
  rw [← opField_toNat] at hw
  obtain h | h | h := hw
  · exact ⟨.next32, by simp [decode, h], rfl⟩
  · exact ⟨.next64, by simp [decode, h], rfl⟩
  · exact ⟨.fill _, by simp [decode, h]; rfl, rfl⟩

@[simp] theorem State.rspStatus_raise (s : State) (f : Status) :
    (s.raise f).rspStatus = some (statusCode f) := by
  simp [State.rspStatus]

/-- Settles O16: the presented word is a drawing command, whose status on an unseeded block is a fault. -/
theorem unseededAfterReset : Obligations.UnseededAfterReset := by
  refine ⟨rfl, fun w hw => ?_⟩
  obtain ⟨i, hdec, hi⟩ := decode_drawing State.reset.build hw
  have hstatus : statusOf State.reset.valid i = .notSeeded := statusOf_of_not_seeds hi false
  have he : exec i State.reset = .next (State.reset.raise .notSeeded) :=
    hstatus ▸ exec_of_fault (by simp [hstatus])
  have hstep : step (State.reset.present w) = exec i State.reset :=
    step_of_command (State.present_moves State.reset w) hdec
  exact ⟨_, hstep.trans he, rfl, State.rspStatus_raise State.reset .notSeeded⟩

end Sys2Proof.Machine
end

section
/-! The vector register as one 128-bit value. -/

namespace Sys2Proof.Machine

theorem toNat_append_eq_add {m n : Nat} (x : BitVec m) (y : BitVec n) :
    (x ++ y).toNat = x.toNat * 2 ^ n + y.toNat := by
  rw [BitVec.toNat_append, ← Nat.shiftLeft_add_eq_or_of_lt y.isLt, Nat.shiftLeft_eq]

/-- Settles O35, by taking the lanes off the value one after another. -/
theorem lanePlacement : Obligations.LanePlacement := by
  intro v
  simp only [vBits, toNat_append_eq_add]
  omega

end Sys2Proof.Machine
end

section
/-! The draws of a seeded block, numbered from 0 (spec/20_memory.md rule R24): the word of each, and the
state and the responses that as many `NEXT32` leave. -/

namespace Sys2Proof.Machine

/-- The output of draw number `i`, the first draw from `s` being number 0 (rules R24, R64). -/
def State.drawnWord (s : State) (i : Nat) : Word := (State.advance^[i + 1] s).output

@[simp] theorem State.drawnWord_zero (s : State) : s.drawnWord 0 = s.advance.output := rfl

@[simp] theorem State.drawnWord_advance (s : State) (i : Nat) :
    s.advance.drawnWord i = s.drawnWord (i + 1) := rfl

@[simp] theorem State.drawnWord_respond (s : State) (r : Response) (i : Nat) :
    (s.respond r).drawnWord i = s.drawnWord i := by
  have hwords : (s.respond r).SameWords s := .refl s
  exact (hwords.iterate_advance (i + 1)).output_eq

/-- The output is the xor of the words after the draw (rule R64). -/
theorem State.drawnWord_eq (s : State) (i : Nat) :
    s.drawnWord i = (State.advance^[i + 1] s).z1 ^^^ (State.advance^[i + 1] s).z2 ^^^
      (State.advance^[i + 1] s).z3 :=
  State.output_eq _

theorem State.iterate_advance_respond (k : Nat) (s : State) (r : Response) :
    State.advance^[k] (s.respond r) = (State.advance^[k] s).respond r := by
  have hone : Function.Commute State.advance (State.respond · r) := fun t => t.advance_respond r
  exact hone.iterate_left k s

/-- The response of a seeded block to `NEXT32` as its draw number `i` (rule R65). -/
def State.drawnResponse (s : State) (i : Nat) : Response := ⟨.ok, (s.drawnWord i).setWidth 64, []⟩

/-- Rule R65, repeated: `k` times `NEXT32` makes `k` draws and delivers their words in draw order. -/
theorem runCommands_replicate_next32 (k : Nat) {s : State} (hv : s.valid = true) :
    runCommands (List.replicate k .next32) s = some { State.advance^[k] s with
      delivered := s.delivered ++ (List.range k).map s.drawnResponse } := by
  induction k generalizing s with
  | zero => simp [runCommands]
  | succ k ih =>
    have hnext : exec .next32 s = .next (s.advance.respond (s.drawnResponse 0)) :=
      execNext32_of_seeded hv
    have hshift : (s.advance.respond (s.drawnResponse 0)).drawnResponse =
        s.drawnResponse ∘ Nat.succ := by
      funext i
      simp [State.drawnResponse]
    rw [List.replicate_succ, runCommands_cons hnext, ih (by simpa using hv), hshift,
      State.iterate_advance_respond, List.range_succ_eq_map]
    simp

end Sys2Proof.Machine
end

section
/-! The bytes of `FILL` by their offsets: the shifter, then the loop. -/

namespace Sys2Proof.Machine

/-- What the shifter has moved down by 8 has lost its lowest byte (rule R91). -/
theorem leByte_shr32 (w : Word) (k : Nat) : leByte (shr32 w 8) k = leByte w (k + 1) := by
  apply BitVec.eq_of_getLsbD_eq
  intro i hi
  have hbit : 8 + (8 * k + i) = 8 * (k + 1) + i := by omega
  simp [leByte, shr32, hi, hbit]

/-- Rules R90 and R91: the shifter emits the bytes of its word by their number. -/
theorem shiftOut_getElem? {n k : Nat} (h : k < n) (w : Word) :
    (shiftOut n w)[k]? = some (leByte w k) := by
  induction n generalizing k w with
  | zero => omega
  | succ n ih =>
    cases k with
    | zero => rfl
    | succ k => rw [shiftOut, List.getElem?_cons_succ, ih (by omega), leByte_shr32]

/-- Rule R24: the byte at offset `j` is byte `j mod 4` of draw number `j div 4`. -/
theorem fillChunks_getElem? {d n j : Nat} (hd : n ≤ 4 * d) (hj : j < n) (s : State) :
    (fillChunks d n s).2[j]? = some (leByte (s.drawnWord (j / 4)) (j % 4)) := by
  induction d generalizing n j s with
  | zero => omega
  | succ d ih =>
    simp only [fillChunks, State.draw32_fst, State.draw32_snd]
    by_cases hfirst : j < 4
    · rw [List.getElem?_append_left (by rw [shiftOut_length]; omega), shiftOut_getElem? (by omega),
        Nat.div_eq_of_lt hfirst, Nat.mod_eq_of_lt hfirst, State.drawnWord_zero]
    · obtain ⟨i, rfl⟩ : ∃ i, j = i + 4 := ⟨j - 4, by omega⟩
      have hchunk : (shiftOut (min 4 n) s.advance.output).length = 4 := by
        rw [shiftOut_length]; omega
      rw [List.getElem?_append_right (by omega), hchunk, Nat.add_sub_cancel,
        ih (by omega) (by omega), Nat.add_div_right i (by decide), Nat.add_mod_right,
        State.drawnWord_advance]

theorem leByte_toNat (w : Word) (k : Nat) : (leByte w k).toNat = w.toNat / 2 ^ (8 * k) % 2 ^ 8 := by
  rw [leByte, BitVec.extractLsb'_toNat, Nat.shiftRight_eq_div_pow]

/-- Settles O45: the loop's byte at `j` is of draw number `j div 4`, which is the output of the words that
`j div 4 + 1` times `NEXT32` leave. -/
theorem fillByteAtOffset : Obligations.FillByteAtOffset := by
  intro s n hv
  refine ⟨_, _, execFill_of_seeded hv n, by simp, fillChunks_length _ n s (drawsFor_enough n),
    fun j hj => ⟨_, runCommands_replicate_next32 (j / 4 + 1) hv, ?_⟩⟩
  rw [fillChunks_getElem? (drawsFor_enough n) hj, Option.map_some, leByte_toNat, State.drawnWord_eq]

end Sys2Proof.Machine
end

section
/-! The pseudocode of `FILL` on a destination buffer: each `MemWrite` puts one draw's bytes behind those
already written. -/

namespace Sys2Proof.Machine

theorem shiftOut_succ (n : Nat) (w : Word) : shiftOut (n + 1) w = shiftOut n w ++ [leByte w n] := by
  induction n generalizing w with
  | zero => rfl
  | succ n ih => rw [shiftOut, ih, leByte_shr32, shiftOut, List.cons_append]

/-- Rule R21: up to the end of what it writes, `MemWrite` leaves the bytes before `addr` and then the bytes
the shifter emits. -/
theorem take_memWrite {buf : List Byte} {addr n : Nat} (h : addr + n ≤ buf.length) (v : Word) :
    (memWrite buf addr n v).take (addr + n) = buf.take addr ++ shiftOut n v := by
  induction n with
  | zero => simp [memWrite, shiftOut]
  | succ n ih =>
    have hlen : addr + n < ((memWrite buf addr n v).set (addr + n) (leByte v n)).length := by
      rw [List.length_set, memWrite_length]; omega
    rw [memWrite, ← Nat.add_assoc, List.take_succ_eq_append_getElem hlen, List.take_set_of_le le_rfl,
      ih (by omega), List.getElem_set_self, shiftOut_succ, List.append_assoc]

/-- From iteration `i` on, with the draws still owed to a buffer of `n` bytes, the pseudocode of rule R92
keeps the `4i` bytes written before and puts the rest of the byte stream behind them. -/
theorem fillBuffer_eq {d i n : Nat} {buf : List Byte} (hn : buf.length = n) (hd : drawsFor n = i + d)
    (s : State) :
    fillBuffer d i n buf s =
      ((fillChunks d (n - 4 * i) s).1, buf.take (4 * i) ++ (fillChunks d (n - 4 * i) s).2) := by
  unfold drawsFor at hd
  induction d generalizing i buf s with
  | zero => simp [fillBuffer, fillChunks, List.take_of_length_le (show buf.length ≤ 4 * i by omega)]
  | succ d ih =>
    have hwritten : (memWrite buf (4 * i) (min 4 (n - 4 * i)) s.advance.output).take (4 * (i + 1)) =
        buf.take (4 * i) ++ shiftOut (min 4 (n - 4 * i)) s.advance.output := by
      rw [← take_memWrite (by omega), List.take_eq_take_iff, memWrite_length]
      omega
    have hrest : n - 4 * (i + 1) = n - 4 * i - 4 := by omega
    simp only [fillBuffer, fillChunks, State.draw32_fst, State.draw32_snd]
    rw [ih (by simpa using hn) (by omega), hwritten, hrest, List.append_assoc]

/-- Settles O50: before the first iteration nothing is written, so the whole buffer is the byte stream. -/
theorem fillMatchesBufferPseudocode : Obligations.FillMatchesBufferPseudocode := by
  intro s buf hv
  have hloop := fillBuffer_eq (buf := buf) (i := 0) rfl (Nat.zero_add _).symm s
  rw [exec_fill, execFill_of_seeded hv, ← drawsFor, hloop]
  simp [State.respond]

end Sys2Proof.Machine
end

section
/-! The command word: its two fields, and the payload as bytes and as words (spec/30_encoding.md rules R35,
R37, R38). -/

namespace Sys2Proof.Machine

/-! ### The two fields -/

theorem payloadField_append (op : BitVec 3) (p : Payload) : payloadField (op ++ p) = p :=
  BitVec.extractLsb'_append_eq_right

/-- Rule R35: a command word is its opcode above its payload. -/
theorem opField_append_payloadField (w : CmdWord) : opField w ++ payloadField w = w :=
  BitVec.extractLsb'_append_extractLsb'

theorem opNumber_append (op : BitVec 3) (p : Payload) : opNumber (op ++ p) = op.toNat := by
  rw [← opField_toNat, Laws.opField_append]

theorem payloadField_toNat (w : CmdWord) : (payloadField w).toNat = w.toNat % 2 ^ 96 := by
  rw [payloadField, BitVec.extractLsb'_toNat, Nat.shiftRight_zero]

theorem opField_eq_of_opNumber {w : CmdWord} {op : BitVec 3} (h : opNumber w = op.toNat) :
    opField w = op :=
  BitVec.eq_of_toNat_eq ((opField_toNat w).trans h)

theorem payloadByte_payloadField_toNat (w : CmdWord) {k : Nat} (hk : k < 12) :
    (payloadByte (payloadField w) k).toNat = w.toNat / 2 ^ (8 * k) % 2 ^ 8 := by
  rw [payloadByte, payloadField, BitVec.extractLsb'_extractLsb'_of_le (by omega),
    BitVec.extractLsb'_toNat, Nat.shiftRight_eq_div_pow]

theorem payloadWord_payloadField_toNat (w : CmdWord) {i : Nat} (hi : i < 3) :
    (payloadWord (payloadField w) i).toNat = w.toNat / 2 ^ (32 * i) % 2 ^ 32 := by
  rw [payloadWord, payloadField, BitVec.extractLsb'_extractLsb'_of_le (by omega),
    BitVec.extractLsb'_toNat, Nat.shiftRight_eq_div_pow]

/-! ### The payload of `SEEDB` -/

theorem seedBytesOf_getElem (p : Payload) {k : Nat} (hk : k < 12) :
    (seedBytesOf p)[k] = payloadByte p k := by
  interval_cases k <;> rfl

theorem seedByte_of_lt (b : Vector Byte 12) {k : Nat} (hk : k < 12) : seedByte b k = b[k] :=
  dif_pos hk

/-- The seed bytes of a payload, read back little-endian, are the payload's own bits. -/
theorem memRead_seedBytesOf (p : Payload) {addr n : Nat} (h : addr + n ≤ 12) :
    memRead (seedBytesOf p) addr n = p.extractLsb' (8 * addr) (8 * n) := by
  induction n generalizing addr with
  | zero => exact BitVec.eq_of_zero_length rfl
  | succ n ih =>
    rw [memRead, ih (by omega), seedByte_of_lt _ (by omega), seedBytesOf_getElem p (by omega),
      payloadByte]
    exact BitVec.extractLsb'_append_extractLsb'_eq_extractLsb' (Nat.mul_succ 8 addr)

/-- Byte `k` of what is read is the byte `k` offsets on (rule R23). -/
theorem extractLsb'_memRead (b : Vector Byte 12) {addr n k : Nat} (hk : k < n) :
    (memRead b addr n).extractLsb' (8 * k) 8 = seedByte b (addr + k) := by
  induction n generalizing addr k with
  | zero => omega
  | succ n ih =>
    cases k with
    | zero => exact BitVec.extractLsb'_append_eq_right
    | succ k =>
      rw [memRead, BitVec.extractLsb'_append_eq_of_le (by omega), Nat.mul_succ, Nat.add_sub_cancel,
        ih (by omega), Nat.add_right_comm, Nat.add_assoc]

/-- The payload of twelve bytes is the whole seed buffer, read as one value (rules R23, R37). -/
theorem payloadOfBytes_eq_memRead (b : Vector Byte 12) : payloadOfBytes b = memRead b 0 12 := by
  simp only [payloadOfBytes, memRead, seedByte]
  rw [BitVec.zero_width_append]
  rfl

theorem payloadOfBytes_seedBytesOf (p : Payload) : payloadOfBytes (seedBytesOf p) = p := by
  rw [payloadOfBytes_eq_memRead, memRead_seedBytesOf p (by decide)]
  exact BitVec.extractLsb'_eq_self

theorem seedBytesOf_payloadOfBytes (b : Vector Byte 12) : seedBytesOf (payloadOfBytes b) = b := by
  ext k hk
  rw [seedBytesOf_getElem _ hk, payloadByte, payloadOfBytes_eq_memRead, extractLsb'_memRead b hk,
    Nat.zero_add, seedByte_of_lt b hk]

/-- The seed words of a payload's bytes are the words of that payload (rules R37, R50). -/
theorem seedWords_seedBytesOf (p : Payload) :
    seedWords (seedBytesOf p) = (payloadWord p 0, payloadWord p 1, payloadWord p 2) := by
  simp [seedWords, memRead_seedBytesOf, payloadWord]

/-! ### The payload of `SEEDW` -/

theorem append_payloadWords (p : Payload) :
    (payloadWord p 2 ++ payloadWord p 1 ++ payloadWord p 0 : Payload) = p := by
  apply BitVec.eq_of_toNat_eq
  have hp : p.toNat < 2 ^ 96 := p.isLt
  simp only [toNat_append_eq_add, payloadWord, BitVec.extractLsb'_toNat, Nat.shiftRight_eq_div_pow]
  omega

theorem payloadWord_append_zero (x y z : Word) : payloadWord (z ++ y ++ x) 0 = x :=
  BitVec.extractLsb'_append_eq_right

theorem payloadWord_append_one (x y z : Word) : payloadWord (z ++ y ++ x) 1 = y :=
  (BitVec.extractLsb'_append_eq_of_le (by decide)).trans BitVec.extractLsb'_append_eq_right

theorem payloadWord_append_two (x y z : Word) : payloadWord (z ++ y ++ x) 2 = z :=
  (BitVec.extractLsb'_append_eq_of_le (by decide)).trans BitVec.extractLsb'_append_eq_left

/-! ### The payload of `FILL` -/

theorem Build.lenW_le_of_wf {b : Build} (hb : b.wf = true) : b.lenW ≤ 96 := by
  simp only [Build.wf, Bool.and_eq_true, decide_eq_true_eq] at hb
  exact hb.2

theorem lengthOf_lt (b : Build) (p : Payload) : lengthOf b p < 2 ^ b.lenW :=
  Nat.mod_lt _ (Nat.two_pow_pos _)

/-- Rule R39: a byte count that fits `LEN_W` bits is read back. -/
theorem lengthOf_ofNat {b : Build} (hb : b.wf = true) {n : Nat} (hn : n < 2 ^ b.lenW) :
    lengthOf b (BitVec.ofNat 96 n) = n := by
  have hn96 : n < 2 ^ 96 := hn.trans_le (Nat.pow_le_pow_right (by decide) (Build.lenW_le_of_wf hb))
  rw [lengthOf, BitVec.toNat_ofNat, Nat.mod_eq_of_lt hn96, Nat.mod_eq_of_lt hn]

theorem lengthOf_payloadField {b : Build} (hb : b.wf = true) (w : CmdWord) :
    lengthOf b (payloadField w) = w.toNat % 2 ^ b.lenW := by
  rw [lengthOf, payloadField_toNat,
    Nat.mod_mod_of_dvd _ (Nat.pow_dvd_pow 2 (Build.lenW_le_of_wf hb))]

end Sys2Proof.Machine
end

section
/-! The decoder, one equation per opcode (spec/30_encoding.md rules R36 to R41). -/

namespace Sys2Proof.Machine

theorem opNumber_lt (w : CmdWord) : opNumber w < 8 :=
  (opField_toNat w).symm ▸ (opField w).isLt

theorem decode_seedb (b : Build) {w : CmdWord} (h : opNumber w = 1) :
    decode b w = .ok (.seedb (seedBytesOf (payloadField w))) := by
  simp [decode, opField_toNat, h]

theorem decode_seedw (b : Build) {w : CmdWord} (h : opNumber w = 2) :
    decode b w = .ok (.seedw (payloadWord (payloadField w) 0) (payloadWord (payloadField w) 1)
      (payloadWord (payloadField w) 2)) := by
  simp [decode, opField_toNat, h]

theorem decode_next32 (b : Build) {w : CmdWord} (h : opNumber w = 3) :
    decode b w = .ok .next32 := by
  simp [decode, opField_toNat, h]

theorem decode_next64 (b : Build) {w : CmdWord} (h : opNumber w = 4) :
    decode b w = .ok .next64 := by
  simp [decode, opField_toNat, h]

theorem decode_fill (b : Build) {w : CmdWord} (h : opNumber w = 5) :
    decode b w = .ok (.fill (lengthOf b (payloadField w))) := by
  simp [decode, opField_toNat, h]

/-- Rule R41: the three reserved opcodes. -/
theorem decode_reserved (b : Build) {w : CmdWord}
    (h : opNumber w = 0 ∨ opNumber w = 6 ∨ opNumber w = 7) :
    decode b w = .error (.reservedOpcode (opField w)) := by
  obtain h | h | h := h <;> simp [decode, opField_toNat, h]

/-- Everything the decoder can answer, with the opcode it answers it to. -/
theorem decode_cases (b : Build) (w : CmdWord) :
    (opNumber w = 1 ∧ decode b w = .ok (.seedb (seedBytesOf (payloadField w)))) ∨
    (opNumber w = 2 ∧ decode b w = .ok (.seedw (payloadWord (payloadField w) 0)
      (payloadWord (payloadField w) 1) (payloadWord (payloadField w) 2))) ∨
    (opNumber w = 3 ∧ decode b w = .ok .next32) ∨
    (opNumber w = 4 ∧ decode b w = .ok .next64) ∨
    (opNumber w = 5 ∧ decode b w = .ok (.fill (lengthOf b (payloadField w)))) ∨
    ((opNumber w = 0 ∨ opNumber w = 6 ∨ opNumber w = 7) ∧
      decode b w = .error (.reservedOpcode (opField w))) := by
  have hw := opNumber_lt w
  obtain h | h | h | h | h | h : opNumber w = 1 ∨ opNumber w = 2 ∨ opNumber w = 3 ∨ opNumber w = 4 ∨
      opNumber w = 5 ∨ (opNumber w = 0 ∨ opNumber w = 6 ∨ opNumber w = 7) := by omega
  · exact .inl ⟨h, decode_seedb b h⟩
  · exact .inr (.inl ⟨h, decode_seedw b h⟩)
  · exact .inr (.inr (.inl ⟨h, decode_next32 b h⟩))
  · exact .inr (.inr (.inr (.inl ⟨h, decode_next64 b h⟩)))
  · exact .inr (.inr (.inr (.inr (.inl ⟨h, decode_fill b h⟩))))
  · exact .inr (.inr (.inr (.inr (.inr ⟨h, decode_reserved b h⟩))))

/-- The mask of the opcode map keeps the opcode where it stands (rule R36). -/
theorem and_opcodeMask_toNat (w : CmdWord) :
    (w &&& 0x7000000000000000000000000#99).toNat = opNumber w * 2 ^ 96 := by
  have hmask : 0x7000000000000000000000000#99 = BitVec.allOnes 3 ++ 0#96 := rfl
  have hand : w &&& (BitVec.allOnes 3 ++ 0#96) = opField w ++ 0#96 := by
    conv_lhs => rw [← opField_append_payloadField w]
    rw [BitVec.and_append, BitVec.and_allOnes, BitVec.and_zero]
  rw [hmask, hand, toNat_append_eq_add, opField_toNat, BitVec.toNat_zero, Nat.add_zero]

/-- Settles O3: each answer of the decoder belongs to its own opcodes. -/
theorem opcodeMap : Obligations.OpcodeMap := by
  intro b w
  refine ⟨and_opcodeMask_toNat w, ?_⟩
  obtain ⟨h, hd⟩ | ⟨h, hd⟩ | ⟨h, hd⟩ | ⟨h, hd⟩ | ⟨h, hd⟩ | ⟨h | h | h, hd⟩ := decode_cases b w <;>
    simp [h, hd]

/-- Settles O4: the bytes of the payload are those of the word, and its seed words its operand words. -/
theorem seedbPayload : Obligations.SeedbPayload := by
  intro b w h
  refine ⟨_, decode_seedb b h, fun k => ?_, ?_⟩
  · rw [Fin.getElem_fin, seedBytesOf_getElem _ k.isLt, payloadByte_payloadField_toNat w k.isLt]
  · rw [seedWords_seedBytesOf]
    exact ⟨(payloadWord_payloadField_toNat w (by decide)).trans (by simp),
      payloadWord_payloadField_toNat w (by decide), payloadWord_payloadField_toNat w (by decide)⟩

/-- Settles O5: the words of the payload are those of the word. -/
theorem seedwPayload : Obligations.SeedwPayload := by
  intro b w h
  exact ⟨_, _, _, decode_seedw b h, (payloadWord_payloadField_toNat w (by decide)).trans (by simp),
    payloadWord_payloadField_toNat w (by decide), payloadWord_payloadField_toNat w (by decide)⟩

/-- Settles O6: `LEN_W` is at most 96, so what the remainder keeps is payload only. -/
theorem fillPayload : Obligations.FillPayload := by
  intro b w hb h
  rw [decode_fill b h, lengthOf_payloadField hb]

/-- Settles O7: the decoder's answer to these opcodes reads no payload; to a reserved one it is the opcode. -/
theorem payloadIgnored : Obligations.PayloadIgnored := by
  intro b w v hwv h
  have hreserved (hw : opNumber w = 0 ∨ opNumber w = 6 ∨ opNumber w = 7) : decode b w = decode b v := by
    have hop : opField w = opField v := opField_eq_of_opNumber (hwv.trans (opField_toNat v).symm)
    rw [decode_reserved b hw, decode_reserved b (hwv ▸ hw), hop]
  obtain h | h | h | h | h := h
  · exact hreserved (.inl h)
  · rw [decode_next32 b h, decode_next32 b (hwv ▸ h)]
  · rw [decode_next64 b h, decode_next64 b (hwv ▸ h)]
  · exact hreserved (.inr (.inl h))
  · exact hreserved (.inr (.inr h))

end Sys2Proof.Machine
end

section
/-! Encoding and decoding as inverses of each other. -/

namespace Sys2Proof.Machine

@[simp] theorem payloadField_encode (i : Instr) : payloadField (encode i) = payloadOf i :=
  payloadField_append _ _

@[simp] theorem opNumber_encode (i : Instr) : opNumber (encode i) = (opcodeOf i).toNat :=
  opNumber_append _ _

/-- Settles O1, command by command: the word has the command's opcode, and its payload gives back the
operands. -/
theorem decodeOfEncode : Obligations.DecodeOfEncode := by
  intro b i hb hi
  cases i with
  | seedb x =>
    rw [decode_seedb b (opNumber_encode _), payloadField_encode, payloadOf, seedBytesOf_payloadOfBytes]
  | seedw x y z =>
    rw [decode_seedw b (opNumber_encode _), payloadField_encode, payloadOf, payloadWord_append_zero,
      payloadWord_append_one, payloadWord_append_two]
  | next32 => exact decode_next32 b (opNumber_encode _)
  | next64 => exact decode_next64 b (opNumber_encode _)
  | fill n =>
    have hn : n < 2 ^ b.lenW := of_decide_eq_true hi
    rw [decode_fill b (opNumber_encode _), payloadField_encode, payloadOf, lengthOf_ofNat hb hn]

/-- Rule R46: re-encoding a byte count keeps the payload bits below `LEN_W` and clears the others. -/
theorem payloadOf_fill_lengthOf_getLsbD (b : Build) (p : Payload) (k : Nat) :
    (payloadOf (.fill (lengthOf b p))).getLsbD k = (decide (k < b.lenW) && p.getLsbD k) := by
  rw [payloadOf, BitVec.getLsbD_ofNat, lengthOf, Nat.testBit_mod_two_pow, BitVec.testBit_toNat]
  by_cases hk : k < 96
  · simp [hk]
  · simp [hk, p.getLsbD_of_ge k (by omega)]

/-- A command that was decoded has the word's opcode, is one the build can encode, and keeps the payload bits
it uses. -/
theorem payloadOf_of_decode {b : Build} {w : CmdWord} {i : Instr} (h : decode b w = .ok i) :
    opcodeOf i = opField w ∧ i.wf b = true ∧
      ∀ k, k < 96 → (payloadOf i).getLsbD k = (usesBit b i k && (payloadField w).getLsbD k) := by
  obtain ⟨hw, hd⟩ | ⟨hw, hd⟩ | ⟨hw, hd⟩ | ⟨hw, hd⟩ | ⟨hw, hd⟩ | ⟨hw, hd⟩ := decode_cases b w
  all_goals cases hd.symm.trans h
  all_goals refine ⟨(opField_eq_of_opNumber hw).symm, ?_⟩
  · exact ⟨rfl, by simp [payloadOf, payloadOfBytes_seedBytesOf, usesBit]⟩
  · exact ⟨rfl, by simp [payloadOf, append_payloadWords, usesBit]⟩
  · exact ⟨rfl, fun k hk => by simp [payloadOf, usesBit, hk]⟩
  · exact ⟨rfl, fun k hk => by simp [payloadOf, usesBit, hk]⟩
  · refine ⟨decide_eq_true (lengthOf_lt b _), fun k hk => ?_⟩
    have hnop : ¬ 96 ≤ k := not_le.mpr hk
    rw [payloadOf_fill_lengthOf_getLsbD]
    simp [usesBit, hnop]

/-- Settles O2: the opcode comes back whole, and of the payload the bits the command uses. -/
theorem encodeOfDecode : Obligations.EncodeOfDecode := by
  intro b w i _ h
  obtain ⟨hop, hwf, hbits⟩ := payloadOf_of_decode h
  refine ⟨hwf, fun k _ => ?_⟩
  rw [encode, hop]
  conv_rhs => rw [← opField_append_payloadField w]
  rw [BitVec.getLsbD_append, BitVec.getLsbD_append]
  split
  next hk => exact hbits k hk
  next hk => simp [usesBit, Nat.le_of_not_lt hk]

theorem decode_of_encode_eq {b : Build} {i : Instr} {w : CmdWord} (he : encode i = w)
    (hb : b.wf = true) (hi : i.wf b = true) : decode b w = .ok i :=
  he ▸ decodeOfEncode b i hb hi

/-- Rule R47, first column to second: the words of the table. -/
theorem workedEncodings_encode :
    encode (.seedb #v[123, 0, 0, 0, 45, 1, 0, 0, 89, 2, 0, 0]) = 0x1000002590000012D0000007B ∧
    encode (.seedb #v[0, 0, 0, 0, 0, 0, 0, 0, 0, 0, 0, 0]) = 0x1000000000000000000000000 ∧
    encode (.seedw 123 301 601) = 0x2000002590000012D0000007B ∧
    encode (.seedw 1 8 16) = 0x2000000100000000800000001 ∧
    encode (.seedw 2 8 16) = 0x2000000100000000800000002 ∧
    encode .next32 = 0x3000000000000000000000000 ∧
    encode .next64 = 0x4000000000000000000000000 ∧
    encode (.fill 7) = 0x5000000000000000000000007 ∧
    encode (.fill 0) = 0x5000000000000000000000000 := by
  decide

/-- Settles O8: the table's words are computed, and each is then decoded as the encoding of its command. -/
theorem workedEncodings : Obligations.WorkedEncodings := by
  refine ⟨workedEncodings_encode, fun b hb => ?_, by decide⟩
  obtain ⟨h1, h2, h3, h4, h5, h6, h7, h8, h9⟩ := workedEncodings_encode
  exact ⟨decode_of_encode_eq h1 hb rfl, decode_of_encode_eq h2 hb rfl, decode_of_encode_eq h3 hb rfl,
    decode_of_encode_eq h4 hb rfl, decode_of_encode_eq h5 hb rfl, decode_of_encode_eq h6 hb rfl,
    decode_of_encode_eq h7 hb rfl, fun hfit => decode_of_encode_eq h8 hb (decide_eq_true hfit),
    decode_of_encode_eq h9 hb (decide_eq_true (Nat.two_pow_pos _))⟩

end Sys2Proof.Machine
end

section
/-! What a response carries, by the three ways a command ends (spec/30_encoding.md rules R43, R44). -/

namespace Sys2Proof.Machine

/-- A fault carries nothing: the drawing commands fault on an unseeded block only. -/
theorem Response.fits_of_fault {i : Instr} {v : Bool} (h : statusOf v i ≠ .ok) :
    Response.fits ⟨statusOf v i, 0, []⟩ v i := by
  cases i with
  | seedb b => exact ⟨rfl, rfl⟩
  | seedw w1 w2 w3 => exact ⟨rfl, rfl⟩
  | next32 => exact ⟨Nat.two_pow_pos 32, rfl, fun _ => rfl⟩
  | next64 => exact ⟨rfl, fun _ => rfl⟩
  | fill n =>
    have hv : v = false := by simpa [statusOf] using h
    simp [Response.fits, hv]

theorem Response.fits_of_seeding {i : Instr} (hi : i.seeds = true) (v : Bool) :
    Response.fits ⟨.ok, 0, []⟩ v i := by
  cases i with
  | seedb b => exact ⟨rfl, rfl⟩
  | seedw w1 w2 w3 => exact ⟨rfl, rfl⟩
  | next32 => exact nomatch hi
  | next64 => exact nomatch hi
  | fill n => exact nomatch hi

/-- Rules R65, R66, R92: a drawing command on a seeded block returns its words or emits its bytes. -/
theorem exec_of_drawing_fits {i : Instr} {s : State} (hi : i.seeds = false) (hv : s.valid = true) :
    ∃ (t : State) (r : Response), r.status = .ok ∧ r.fits true i ∧ t.delivered = s.delivered ∧
      exec i s = .next (t.respond r) := by
  cases i with
  | seedb b => exact nomatch hi
  | seedw w1 w2 w3 => exact nomatch hi
  | next32 =>
    refine ⟨_, ⟨.ok, _, []⟩, rfl, ⟨?_, rfl, nofun⟩, s.advance_delivered, execNext32_of_seeded hv⟩
    rw [BitVec.toNat_setWidth_of_le (by decide)]
    exact s.advance.output.isLt
  | next64 => exact ⟨_, ⟨.ok, _, []⟩, rfl, ⟨rfl, nofun⟩, by simp, execNext64_of_seeded hv⟩
  | fill n =>
    exact ⟨_, ⟨.ok, 0, _⟩, rfl, ⟨rfl, fillChunks_length _ n s (drawsFor_enough n)⟩, by simp,
      execFill_of_seeded hv n⟩

/-- Settles O54: a fault and a seeding carry nothing, and draws what their command asks for. -/
theorem responseCarriesItsResult : Obligations.ResponseCarriesItsResult := by
  intro i s
  obtain ⟨hf, he⟩ | ⟨hi, -, w, he⟩ | ⟨hi, hv, -⟩ := exec_cases i s
  · exact ⟨_, _, he, s.raise_delivered _, Response.fits_of_fault hf, fun _ => ⟨rfl, rfl⟩⟩
  · exact ⟨_, ⟨.ok, 0, []⟩, he, by simp, Response.fits_of_seeding hi _, fun _ => ⟨rfl, rfl⟩⟩
  · obtain ⟨t, r, hok, hfits, hd, he⟩ := exec_of_drawing_fits hi hv
    exact ⟨_, r, he, by simp [hd], hv ▸ hfits, fun h => absurd hok h⟩

end Sys2Proof.Machine
end

section
/-! The two seeding commands: the words of the seed buffer as numbers and what a seeding command writes
(spec/40_seeding.md rules R50 to R55, R57). -/

namespace Sys2Proof.Machine

/-- Rule R23: four bytes read little-endian have the weights 1, 2^8, 2^16 and 2^24. -/
theorem memRead_four_toNat (b : Vector Byte 12) {addr : Nat} (h : addr + 3 < 12) :
    (memRead b addr 4).toNat = leValue b addr h := by
  have h0 : seedByte b addr = b[addr] := seedByte_of_lt b (by omega)
  have h1 : seedByte b (addr + 1) = b[addr + 1] := seedByte_of_lt b (by omega)
  have h2 : seedByte b (addr + 1 + 1) = b[addr + 2] := seedByte_of_lt b (by omega)
  have h3 : seedByte b (addr + 1 + 1 + 1) = b[addr + 3] := seedByte_of_lt b h
  simp only [memRead, toNat_append_eq_add, leValue, h0, h1, h2, h3, BitVec.ofNat_eq_ofNat,
    BitVec.toNat_ofNat]
  omega

/-- What a seeding writes, in either build, as one record. -/
theorem State.seed_eq (s : State) (w : Word × Word × Word) :
    s.seed w = { s with
      z1 := w.1, z2 := w.2.1, z3 := w.2.2, valid := true
      pad := if s.build.engine = .vector then 0 else s.pad } := by
  cases h : s.build.engine <;> simp [State.seed, h, State.setWords, State.setLanes]

/-- Rules R50, R51: a promoted seed word is the greater of its little-endian value and its minimum. -/
theorem promote_seedWords_toNat (b : Vector Byte 12) :
    let w := seedWords b
    let p := promote w.1 w.2.1 w.2.2
    p.1.toNat = max (leValue b 0) 2 ∧ p.2.1.toNat = max (leValue b 4) 8 ∧
      p.2.2.toNat = max (leValue b 8) 16 := by
  simp [promote, seedWords, umax32_toNat, memRead_four_toNat, min1, min2, min3]

/-- Settles O36: the state after `SEEDB` is a seeding with the promoted seed words, read field by field. -/
theorem seedbLoadsPromotedWords : Obligations.SeedbLoadsPromotedWords := by
  intro b s
  obtain ⟨h1, h2, h3⟩ := promote_seedWords_toNat b
  refine ⟨_, rfl, ?_, ?_, ?_, by simp, by simp, by simp, by simp, by simp⟩
  · rw [State.respond_z1, State.seed_z1, h1]
  · rw [State.respond_z2, State.seed_z2, h2]
  · rw [State.respond_z3, State.seed_z3, h3]

/-- Settles O37, by the validator's two answers. -/
theorem seedwStoresOrRejects : Obligations.SeedwStoresOrRejects := by
  intro w1 w2 w3 s
  constructor
  · intro h1 h2 h3
    have hvalid := (seedValid_iff w1 w2 w3).mpr ⟨h1, h2, h3⟩
    rw [exec_seedw, execSeedw_of_valid hvalid, State.seed_eq]
    rfl
  · intro hlow
    have hinvalid : seedValid w1 w2 w3 = false := by
      rw [Bool.eq_false_iff, ne_eq, seedValid_iff]
      omega
    rw [exec_seedw, execSeedw_of_invalid hinvalid]
    rfl

/-- Rule R55: promotion leaves words alone that meet their minimums. -/
theorem promote_of_seedValid {w1 w2 w3 : Word} (h : seedValid w1 w2 w3 = true) :
    promote w1 w2 w3 = (w1, w2, w3) := by
  simp only [seedValid, Bool.and_eq_true, decide_eq_true_eq] at h
  simp [promote, umax32, h]

/-- Settles O40: the seed words are the operand words, and promotion leaves them alone. -/
theorem seedingDisciplinesAgree : Obligations.SeedingDisciplinesAgree := by
  intro b w1 w2 w3 s e1 e2 e3 h1 h2 h3
  have hwords : seedWords b = (w1, w2, w3) := by
    simp [seedWords, ← BitVec.toNat_inj, memRead_four_toNat, e1, e2, e3]
  have hvalid := (seedValid_iff w1 w2 w3).mpr ⟨h1, h2, h3⟩
  refine ⟨_, ?_, execSeedw_of_valid hvalid s, by simp, by simp, by simp⟩
  rw [exec_seedb, execSeedb, hwords, promote_of_seedValid hvalid]

end Sys2Proof.Machine
end

section
/-! The validator on the live bits of the words (spec/40_seeding.md rule R56): the bits from `m` up, for the
three choices of `m`. -/

namespace Sys2Proof.Machine

/-- A word is at least `2 ^ m` exactly when its bits from `m` up are not all zero. -/
theorem two_pow_le_iff_highBits_ne_zero (w : Word) {m : Nat} (hm : m ≤ 32) :
    2 ^ m ≤ w.toNat ↔ w.extractLsb' m (32 - m) ≠ 0 := by
  have hfits : w.toNat / 2 ^ m < 2 ^ (32 - m) :=
    Nat.div_lt_of_lt_mul (by rw [← pow_add, Nat.add_sub_cancel' hm]; exact w.isLt)
  rw [ne_eq, ← BitVec.toNat_inj, BitVec.extractLsb'_toNat, Nat.shiftRight_eq_div_pow,
    Nat.mod_eq_of_lt hfits, BitVec.ofNat_eq_ofNat, BitVec.toNat_ofNat, Nat.zero_mod,
    Nat.div_eq_zero_iff_lt (Nat.two_pow_pos m), not_lt]

/-- The mask of rules R60 to R62 keeps the bits from `m` up. -/
theorem and_highMask_getLsbD (w : Word) (m j : Nat) :
    (w &&& (BitVec.allOnes 32 <<< m)).getLsbD j = (decide (m ≤ j ∧ j < 32) && w.getLsbD j) := by
  have hbit := maskedShift_getLsbD m 0 j w
  rwa [shl32, BitVec.shiftLeft_zero, and32] at hbit

/-- The mask keeps something exactly when the word is at least `2 ^ m`. -/
theorem two_pow_le_iff_and_highMask_ne_zero (w : Word) (m : Nat) :
    2 ^ m ≤ w.toNat ↔ w &&& (BitVec.allOnes 32 <<< m) ≠ 0 := by
  rw [← not_lt, not_iff_not, toNat_lt_two_pow_iff]
  constructor
  · intro hzero
    apply BitVec.eq_of_getLsbD_eq
    intro j _
    rw [and_highMask_getLsbD]
    by_cases hmj : m ≤ j
    · simp [hzero j hmj]
    · simp [hmj]
  · intro hzero j hmj
    by_cases hj : j < 32
    · have hbit := and_highMask_getLsbD w m j
      rw [hzero] at hbit
      simpa [hmj, hj] using hbit.symm
    · exact w.getLsbD_of_ge j (by omega)

/-- Settles O41: each minimum is a power of two, so a word is below it exactly when its live bits are zero. -/
theorem validatorOnLiveBits : Obligations.ValidatorOnLiveBits := by
  intro w1 w2 w3
  refine ⟨two_pow_le_iff_highBits_ne_zero w1 (m := 1) (by decide),
    two_pow_le_iff_highBits_ne_zero w2 (m := 3) (by decide),
    two_pow_le_iff_highBits_ne_zero w3 (m := 4) (by decide), ?_⟩
  rw [seedValid_iff]
  exact and_congr (two_pow_le_iff_and_highMask_ne_zero w1 1)
    (and_congr (two_pow_le_iff_and_highMask_ne_zero w2 3) (two_pow_le_iff_and_highMask_ne_zero w3 4))

end Sys2Proof.Machine
end

section
/-! The component formula bit by bit (spec/41_scalar_engine.md rules R60 to R62, R67). -/

namespace Sys2Proof.Machine

/-- The low bits of a component in the order rules R60 to R62 write them. -/
theorem component_getLsbD_low_add {m p q r i : Nat} (hr : m + p + r = 32) (hqr : q ≤ r)
    (hi : i < m + p) (z : Word) :
    (component m p q r z).getLsbD i = (z.getLsbD (i + r) ^^ z.getLsbD (i + (r - q))) := by
  rw [component_getLsbD_low hr hqr hi, Bool.xor_comm, Nat.add_comm r i, Nat.add_sub_assoc hqr]

/-- Settles O23: the bits by the reading of the formula, the example by evaluation. -/
theorem componentOne : Obligations.ComponentOne := by
  refine ⟨fun _ => rfl, fun z i hi hi' => ?_, fun z i hi => ?_, by decide⟩
  · rw [f1_eq_component, component_getLsbD_high rfl (by decide) hi (by omega)]
  · rw [f1_eq_component, component_getLsbD_low_add rfl (by decide) (by omega)]

/-- Settles O24, as O23. -/
theorem componentTwo : Obligations.ComponentTwo := by
  refine ⟨fun _ => rfl, fun z i hi hi' => ?_, fun z i hi => ?_, by decide⟩
  · rw [f2_eq_component, component_getLsbD_high rfl (by decide) hi (by omega)]
  · rw [f2_eq_component, component_getLsbD_low_add rfl (by decide) (by omega)]

/-- Settles O25, as O23. -/
theorem componentThree : Obligations.ComponentThree := by
  refine ⟨fun _ => rfl, fun z i hi hi' => ?_, fun z i hi => ?_, by decide⟩
  · rw [f3_eq_component, component_getLsbD_high rfl (by decide) hi (by omega)]
  · rw [f3_eq_component, component_getLsbD_low_add rfl (by decide) (by omega)]

/-- Rule R67 item (5): the masked shift fills the bits from `m + p` up and the feedback those below. -/
theorem maskedShift_and_feedback {m p q r : Nat} (hr : m + p + r = 32) (hqr : q ≤ r) (z : Word) :
    shl32 (and32 z (BitVec.allOnes 32 <<< m)) p &&& shr32 (xor32 (shl32 z q) z) r = 0 := by
  apply BitVec.eq_of_getLsbD_eq
  intro i _
  rw [BitVec.getLsbD_and, maskedShift_getLsbD, feedback_getLsbD hqr]
  by_cases hi : m + p ≤ i
  · have hfb : ¬ r + i < 32 := by omega
    simp [hfb]
  · simp [hi]

theorem xor_eq_or_of_and_eq_zero {a b : Word} (h : a &&& b = 0) : a ^^^ b = a ||| b := by
  apply BitVec.eq_of_getLsbD_eq
  intro i _
  have hbit : (a &&& b).getLsbD i = false := by rw [h]; exact BitVec.getLsbD_zero
  rw [BitVec.getLsbD_and] at hbit
  rw [BitVec.getLsbD_xor, BitVec.getLsbD_or]
  cases ha : a.getLsbD i with
  | false => simp
  | true => simpa [ha] using hbit

/-- Settles O26: the two terms are disjoint for all three choices of the amounts. -/
theorem termsAreDisjoint : Obligations.TermsAreDisjoint := by
  intro z
  have h1 := maskedShift_and_feedback (m := 1) (p := 12) (q := 13) (r := 19) rfl (by decide) z
  have h2 := maskedShift_and_feedback (m := 3) (p := 4) (q := 2) (r := 25) rfl (by decide) z
  have h3 := maskedShift_and_feedback (m := 4) (p := 17) (q := 3) (r := 11) rfl (by decide) z
  exact ⟨h1, xor_eq_or_of_and_eq_zero h1, h2, xor_eq_or_of_and_eq_zero h2, h3,
    xor_eq_or_of_and_eq_zero h3⟩

end Sys2Proof.Machine
end

section
/-! The component functions on the live bits of their words (spec/41_scalar_engine.md rules R68, R69,
section 5): linear over GF(2), blind to the dead bits, one to one on the live ones. -/

namespace Sys2Proof.Machine

/-! ### Linear functions on bit vectors -/

/-- Linear over GF(2): the function of a xor is the xor of its values. -/
def XorLinear {a b : Nat} (g : BitVec a → BitVec b) : Prop := ∀ x y, g (x ^^^ y) = g x ^^^ g y

theorem XorLinear.map_zero {a b : Nat} {g : BitVec a → BitVec b} (hg : XorLinear g) : g 0 = 0 := by
  have h := hg 0 0
  simpa using h

theorem XorLinear.comp {a b c : Nat} {g : BitVec b → BitVec c} {f : BitVec a → BitVec b}
    (hg : XorLinear g) (hf : XorLinear f) : XorLinear fun x => g (f x) :=
  fun x y => (congrArg g (hf x y)).trans (hg (f x) (f y))

/-! ### Live bits -/

theorem ushiftRight_eq_iff (y z : Word) (m : Nat) :
    y >>> m = z >>> m ↔ ∀ j, m ≤ j → y.getLsbD j = z.getLsbD j := by
  constructor
  · intro h j hj
    have hbit := congrArg (fun w : Word => w.getLsbD (j - m)) h
    simpa [Nat.add_sub_cancel' hj] using hbit
  · intro h
    apply BitVec.eq_of_getLsbD_eq
    intro i _
    simpa using h (m + i) (Nat.le_add_right m i)

/-- Words agree on their live bits exactly when their xor has none. -/
theorem ushiftRight_eq_iff_xor_lt (y z : Word) (m : Nat) :
    y >>> m = z >>> m ↔ (y ^^^ z).toNat < 2 ^ m := by
  rw [ushiftRight_eq_iff, toNat_lt_two_pow_iff]
  simp

theorem ushiftRight_eq_zero_iff (z : Word) (m : Nat) : z >>> m = 0 ↔ z.toNat < 2 ^ m := by
  simpa using ushiftRight_eq_iff_xor_lt z 0 m

/-- What rules R68 and R69 say of a component function whose word has `m` dead bits. -/
structure ActsOnLiveBits (m : Nat) (f : Word → Word) : Prop where
  linear : XorLinear f
  congr : ∀ {y z : Word}, y >>> m = z >>> m → f y = f z
  injective : ∀ {y z : Word}, f y >>> m = f z >>> m → y >>> m = z >>> m

theorem and_xor_distrib_right (x y mask : Word) :
    (x ^^^ y) &&& mask = (x &&& mask) ^^^ (y &&& mask) := by
  apply BitVec.eq_of_getLsbD_eq
  intro i _
  simp [Bool.and_xor_distrib_right]

theorem component_xorLinear (m p q r : Nat) : XorLinear (component m p q r) := by
  intro x y
  simp only [component, xor32, shl32, shr32, and32, and_xor_distrib_right,
    BitVec.shiftLeft_xor_distrib, BitVec.ushiftRight_xor_distrib]
  ac_rfl

/-- Rule R68: no bit of a component comes from a dead bit. -/
theorem component_congr {m p q r : Nat} (hr : m + p + r = 32) (hqr : q + m ≤ r) {y z : Word}
    (h : y >>> m = z >>> m) : component m p q r y = component m p q r z := by
  rw [ushiftRight_eq_iff] at h
  apply BitVec.eq_of_getLsbD_eq
  intro i hi
  by_cases hhigh : m + p ≤ i
  · rw [component_getLsbD_high hr (by omega) hhigh hi, component_getLsbD_high hr (by omega) hhigh hi,
      h (i - p) (by omega)]
  · rw [component_getLsbD_low hr (by omega) (by omega), component_getLsbD_low hr (by omega) (by omega),
      h (r + i - q) (by omega), h (r + i) (by omega)]

theorem component_actsOnLiveBits {m p q r : Nat} (hr : m + p + r = 32) (hq : 1 ≤ q)
    (hqr : q + m ≤ r) : ActsOnLiveBits m (component m p q r) where
  linear := component_xorLinear m p q r
  congr := component_congr hr hqr
  injective {y z} h := by
    rw [ushiftRight_eq_iff_xor_lt, ← component_xorLinear m p q r y z] at h
    exact (ushiftRight_eq_iff_xor_lt y z m).mpr (toNat_lt_of_component_lt hr hq (by omega) h)

theorem f1_actsOnLiveBits : ActsOnLiveBits 1 f1 :=
  component_actsOnLiveBits (m := 1) (p := 12) (q := 13) (r := 19) rfl (by decide) (by decide)

theorem f2_actsOnLiveBits : ActsOnLiveBits 3 f2 :=
  component_actsOnLiveBits (m := 3) (p := 4) (q := 2) (r := 25) rfl (by decide) (by decide)

theorem f3_actsOnLiveBits : ActsOnLiveBits 4 f3 :=
  component_actsOnLiveBits (m := 4) (p := 17) (q := 3) (r := 11) rfl (by decide) (by decide)

theorem ActsOnLiveBits.eq_zero {m : Nat} {f : Word → Word} (h : ActsOnLiveBits m f) {z : Word}
    (hz : z >>> m = 0) : f z = 0 :=
  (h.congr (hz.trans (BitVec.zero_ushiftRight (w := 32)).symm)).trans h.linear.map_zero

/-- Rule R69: a word below its minimum becomes 0. -/
theorem ActsOnLiveBits.collapse {m : Nat} {f : Word → Word} (h : ActsOnLiveBits m f) {z : Word}
    (hz : z.toNat < 2 ^ m) : f z = 0 :=
  h.eq_zero ((ushiftRight_eq_zero_iff z m).mpr hz)

end Sys2Proof.Machine
end

section
/-! Linear functions by their columns, the values on a basis; iteration by repeated squaring of the columns
(spec/41_scalar_engine.md rules R69, R70). -/

namespace Sys2Proof.Machine

/-- The xor of the vectors that the binary digits of `z` choose, the lowest digit choosing the first. -/
def combine {n : Nat} : List (BitVec n) → Nat → BitVec n
  | [], _ => 0
  | c :: cs, z => if z % 2 = 1 then c ^^^ combine cs (z / 2) else combine cs (z / 2)

/-- The words with one bit set, for `n` bits from bit `m` up. -/
def basis : (n m : Nat) → List Word
  | 0, _ => []
  | n + 1, m => 1#32 <<< m :: basis n (m + 1)

/-- The values of a function on the words with one live bit. -/
def columns {b : Nat} (m : Nat) (f : Word → BitVec b) : List (BitVec b) := (basis (32 - m) m).map f

theorem combine_zero {n : Nat} (cs : List (BitVec n)) : combine cs 0 = 0 := by
  induction cs with
  | nil => rfl
  | cons c cs ih => simpa [combine] using ih

theorem XorLinear.combine_map {a b : Nat} {g : BitVec a → BitVec b} (hg : XorLinear g)
    (cs : List (BitVec a)) (z : Nat) : combine (cs.map g) z = g (combine cs z) := by
  induction cs generalizing z with
  | nil => exact hg.map_zero.symm
  | cons c cs ih =>
    rw [List.map_cons, combine, combine, ih]
    split
    · exact (hg c _).symm
    · rfl

/-- Digits above those of the first list choose from the second. -/
theorem combine_append {n : Nat} (cs ds : List (BitVec n)) {z : Nat} (hz : z < 2 ^ cs.length)
    (w : Nat) : combine (cs ++ ds) (z + 2 ^ cs.length * w) = combine cs z ^^^ combine ds w := by
  induction cs generalizing z with
  | nil =>
    obtain rfl : z = 0 := by simpa using hz
    simp [combine]
  | cons c cs ih =>
    rw [List.length_cons, pow_succ] at hz
    have hmul : 2 ^ (c :: cs).length * w = 2 * (2 ^ cs.length * w) := by
      rw [List.length_cons, pow_succ']; ring
    have hdigit : (z + 2 ^ (c :: cs).length * w) % 2 = z % 2 := by omega
    have hrest : (z + 2 ^ (c :: cs).length * w) / 2 = z / 2 + 2 ^ cs.length * w := by omega
    rw [List.cons_append, combine, combine, hdigit, hrest, ih (by omega)]
    split
    · rw [BitVec.xor_assoc]
    · rfl

/-- The live bits of a word: the lowest of them and the rest. -/
theorem liveBits_succ (z : Word) (m : Nat) :
    z >>> m <<< m = (if z.getLsbD m then 1#32 <<< m else 0) ^^^ z >>> (m + 1) <<< (m + 1) := by
  apply BitVec.eq_of_getLsbD_eq
  intro i hi
  rw [BitVec.getLsbD_xor]
  obtain hlow | rfl | hhigh := lt_trichotomy i m
  · have hlow' : i < m + 1 := by omega
    split <;> simp [hlow, hlow']
  · split <;> simp_all
  · have hne : i - m ≠ 0 := by omega
    have hsum : m + (i - m) = i ∧ m + 1 + (i - (m + 1)) = i := by omega
    split <;> simp [hi, hne, hsum, not_lt.mpr hhigh.le, not_lt.mpr (Nat.succ_le_of_lt hhigh)]

/-- The digits of the live bits choose from the basis the words those bits stand for. -/
theorem combine_basis {n m : Nat} (h : m + n = 32) (z : Word) :
    combine (basis n m) (z >>> m).toNat = z >>> m <<< m := by
  induction n generalizing m with
  | zero =>
    obtain rfl : m = 32 := h
    simp [basis, combine]
  | succ n ih =>
    have hdigit : (z >>> m).toNat % 2 = 1 ↔ z.getLsbD m = true := by
      rw [BitVec.toNat_ushiftRight, Nat.shiftRight_eq_div_pow, ← BitVec.testBit_toNat,
        Nat.testBit_eq_decide_div_mod_eq, decide_eq_true_eq]
    have hrest : (z >>> m).toNat / 2 = (z >>> (m + 1)).toNat := by
      rw [BitVec.toNat_ushiftRight, BitVec.toNat_ushiftRight, Nat.shiftRight_succ]
    rw [basis, combine, hrest, ih (by omega), liveBits_succ z m]
    simp only [hdigit]
    split
    · rfl
    · exact BitVec.zero_xor.symm

theorem length_basis (n m : Nat) : (basis n m).length = n := by
  induction n generalizing m with
  | zero => rfl
  | succ n ih => rw [basis, List.length_cons, ih]

theorem length_columns {b : Nat} (m : Nat) (f : Word → BitVec b) : (columns m f).length = 32 - m := by
  rw [columns, List.length_map, length_basis]

/-- The columns give back what a linear function does to the live bits. -/
theorem XorLinear.combine_columns {b m : Nat} {f : Word → BitVec b} (hf : XorLinear f) (hm : m ≤ 32)
    (z : Word) : combine (columns m f) (z >>> m).toNat = f (z >>> m <<< m) := by
  rw [columns, hf.combine_map, combine_basis (Nat.add_sub_cancel' hm)]

/-- The columns of a function applied twice. -/
def square (cols : List Word) : List Word := cols.map fun c : Word => combine cols c.toNat

/-- Repeated squaring of the columns iterates the function. -/
theorem combine_iterate_square {f : Word → Word} {cols : List Word}
    (hcols : ∀ z : Word, combine cols z.toNat = f z) (hf : XorLinear f) (k : Nat) (z : Word) :
    combine (square^[k] cols) z.toNat = f^[2 ^ k] z := by
  induction k generalizing f cols with
  | zero => simpa using hcols z
  | succ k ih =>
    have hsquare (w : Word) : combine (square cols) w.toNat = f (f w) := by
      have hmap : square cols = cols.map f := List.map_congr_left fun c _ => hcols c
      rw [hmap, hf.combine_map, hcols]
    have htwice : f^[2] = fun w => f (f w) := rfl
    rw [Function.iterate_succ_apply, ih hsquare (hf.comp hf), pow_succ', Function.iterate_mul, htwice]

theorem iterate_eq (f : Word → Word) (n : Nat) (z : Word) : iterate f n z = f^[n] z := by
  induction n generalizing z with
  | zero => rfl
  | succ n ih => exact ih (f z)

/-- The return of rule R70, from the columns: `2 ^ k` steps are one step, and one step can be undone on
the live bits. -/
theorem ActsOnLiveBits.iterate_return {m k : Nat} {f : Word → Word} (h : ActsOnLiveBits m f)
    (hk : square^[k] (columns 0 f) = columns 0 f) (z : Word) :
    iterate f (2 ^ k - 1) z >>> m = z >>> m := by
  have hcols (w : Word) : combine (columns 0 f) w.toNat = f w := by
    simpa using h.linear.combine_columns (Nat.zero_le 32) w
  have hpow : f^[2 ^ k] z = f z := by
    rw [← combine_iterate_square hcols h.linear, hk, hcols]
  apply h.injective
  rw [iterate_eq, ← Function.iterate_succ_apply' f, Nat.succ_eq_add_one,
    Nat.sub_add_cancel Nat.one_le_two_pow, hpow]

/-! Squaring as often as a component has live bits gives its columns back: these three are evaluated. -/

theorem square_columns_f1 : square^[31] (columns 0 f1) = columns 0 f1 := by decide +kernel

theorem square_columns_f2 : square^[29] (columns 0 f2) = columns 0 f2 := by decide +kernel

theorem square_columns_f3 : square^[28] (columns 0 f3) = columns 0 f3 := by decide +kernel

/-- Settles O30: the squared columns are the columns again, for each of the three step counts. -/
theorem componentsReturn : Obligations.ComponentsReturn := fun z =>
  ⟨f1_actsOnLiveBits.iterate_return square_columns_f1 z,
    f2_actsOnLiveBits.iterate_return square_columns_f2 z,
    f3_actsOnLiveBits.iterate_return square_columns_f3 z⟩

/-- A function that returns on the live bits reaches them all: the step before the return goes there. -/
theorem ActsOnLiveBits.surjective {m k : Nat} {f : Word → Word} (h : ActsOnLiveBits m f) (hk : k ≠ 0)
    (hsquare : square^[k] (columns 0 f) = columns 0 f) (y : Word) : ∃ z, f z >>> m = y >>> m := by
  obtain ⟨n, hn⟩ : ∃ n, 2 ^ k - 1 = n + 1 :=
    Nat.exists_eq_succ_of_ne_zero (Nat.sub_ne_zero_of_lt (Nat.one_lt_two_pow hk))
  have hreturn := h.iterate_return hsquare y
  rw [hn, iterate_eq, Function.iterate_succ_apply'] at hreturn
  exact ⟨_, hreturn⟩

/-- Settles O29: linear functions with no live word in their kernel are one to one on the live bits, and
onto because they return (rule R70). -/
theorem minimumsArePreserved : Obligations.MinimumsArePreserved :=
  ⟨fun _ => ⟨two_le_f1, eight_le_f2, sixteen_le_f3⟩,
    fun _ => ⟨f1_actsOnLiveBits.collapse, f2_actsOnLiveBits.collapse, f3_actsOnLiveBits.collapse⟩,
    fun _ _ => ⟨f1_actsOnLiveBits.injective, f2_actsOnLiveBits.injective, f3_actsOnLiveBits.injective⟩,
    fun y => ⟨f1_actsOnLiveBits.surjective (by decide) square_columns_f1 y,
      f2_actsOnLiveBits.surjective (by decide) square_columns_f2 y,
      f3_actsOnLiveBits.surjective (by decide) square_columns_f3 y⟩⟩

end Sys2Proof.Machine
end

section
/-! Three consecutive draws (spec/41_scalar_engine.md rule R71): the 96 bits they output are a linear function
of the 88 live bits, and its columns are independent. -/

namespace Sys2Proof.Machine

/-! ### Independent vectors -/

/-- `w` with the leading bit of `v` cleared by adding `v` where it is set. -/
def clearLeading {n : Nat} (v w : BitVec n) : BitVec n :=
  if w.getLsbD v.toNat.log2 then w ^^^ v else w

/-- Gaussian elimination: no vector of the list is 0 after `g` and after clearing the leading bits of those
before it. -/
def independent {n : Nat} : List (BitVec n) → (BitVec n → BitVec n) → Bool
  | [], _ => true
  | c :: cs, g => decide (g c ≠ 0) && independent cs fun x => clearLeading (g c) (g x)

theorem clearLeading_self {n : Nat} {v : BitVec n} (hv : v ≠ 0) : clearLeading v v = 0 := by
  have hnat : v.toNat ≠ 0 := fun h => hv (BitVec.eq_of_toNat_eq h)
  have hbit : v.getLsbD v.toNat.log2 = true := Nat.testBit_log2 hnat
  rw [clearLeading, if_pos hbit, BitVec.xor_self]; rfl

theorem clearLeading_xorLinear {n : Nat} (v : BitVec n) : XorLinear (clearLeading v) := by
  intro x y
  cases hx : x.getLsbD v.toNat.log2 <;> cases hy : y.getLsbD v.toNat.log2
  all_goals simp [clearLeading, hx, hy, BitVec.xor_assoc, BitVec.xor_comm y v]

/-- Elimination is sound: a combination that `g` takes to 0 chooses nothing. -/
theorem eq_zero_of_combine_eq_zero {n : Nat} {cs : List (BitVec n)} {g : BitVec n → BitVec n}
    (hg : XorLinear g) (hi : independent cs g = true) {z : Nat} (hz : z < 2 ^ cs.length)
    (h : g (combine cs z) = 0) : z = 0 := by
  induction cs generalizing g z with
  | nil => simpa using hz
  | cons c cs ih =>
    rw [independent, Bool.and_eq_true, decide_eq_true_eq] at hi
    obtain ⟨hc, hi⟩ := hi
    rw [List.length_cons, pow_succ] at hz
    have hclear := clearLeading_xorLinear (g c)
    -- whether or not `c` is chosen, clearing the leading bit of `g c` takes it out of the combination
    have hrest : clearLeading (g c) (g (combine cs (z / 2))) = 0 := by
      rw [combine] at h
      split at h
      · rw [← BitVec.xor_eq_zero_iff.mp ((hg c _).symm.trans h), clearLeading_self hc]
      · rw [h, hclear.map_zero]
    have hhalf : z / 2 = 0 := ih (hclear.comp hg) hi (by omega) hrest
    by_contra hz0
    have hodd : z % 2 = 1 := by omega
    rw [combine, if_pos hodd, hhalf, combine_zero] at h
    exact hc (by simpa using h)

/-! ### The outputs of three draws -/

/-- What one word adds to the outputs of three draws, the first output highest. -/
def threeSteps (f : Word → Word) (z : Word) : BitVec (32 + 32 + 32) := f z ++ f (f z) ++ f (f (f z))

theorem threeSteps_xorLinear {f : Word → Word} (hf : XorLinear f) : XorLinear (threeSteps f) := by
  intro x y
  rw [threeSteps, threeSteps, threeSteps, hf, hf, hf, BitVec.xor_append, BitVec.xor_append]

theorem threeSteps_congr {f : Word → Word} {y z : Word} (h : f y = f z) :
    threeSteps f y = threeSteps f z := by
  rw [threeSteps, threeSteps, h]

theorem ushiftRight_shiftLeft_ushiftRight (z : Word) (m : Nat) : z >>> m <<< m >>> m = z >>> m := by
  rw [ushiftRight_eq_iff]
  intro j hj
  by_cases hj' : j < 32
  · simp [hj', not_lt.mpr hj, Nat.add_sub_cancel' hj]
  · rw [BitVec.getLsbD_of_ge _ j (by omega), BitVec.getLsbD_of_ge _ j (by omega)]

/-- What a word adds to the three outputs, from its live bits alone. -/
theorem ActsOnLiveBits.combine_threeSteps {m : Nat} {f : Word → Word} (h : ActsOnLiveBits m f)
    (hm : m ≤ 32) (z : Word) :
    combine (columns m (threeSteps f)) (z >>> m).toNat = threeSteps f z := by
  rw [(threeSteps_xorLinear h.linear).combine_columns hm]
  exact threeSteps_congr (h.congr (ushiftRight_shiftLeft_ushiftRight z m))

/-- Evaluated: the columns of the 31, 29 and 28 live bits are independent. -/
theorem independent_threeSteps :
    independent (columns 1 (threeSteps f1) ++ (columns 3 (threeSteps f2) ++ columns 4 (threeSteps f3)))
      id = true := by
  decide +kernel

theorem liveBits_toNat_lt (z : Word) {m : Nat} (hm : m ≤ 32) : (z >>> m).toNat < 2 ^ (32 - m) := by
  rw [BitVec.toNat_ushiftRight, Nat.shiftRight_eq_div_pow]
  refine Nat.div_lt_of_lt_mul ?_
  rw [← pow_add, Nat.add_sub_cancel' hm]
  exact z.isLt

/-- Rule R71: the outputs of three draws determine the live bits. -/
theorem live_eq_zero_of_threeSteps {z1 z2 z3 : Word}
    (h : threeSteps f1 z1 ^^^ (threeSteps f2 z2 ^^^ threeSteps f3 z3) = 0) :
    z1 >>> 1 = 0 ∧ z2 >>> 3 = 0 ∧ z3 >>> 4 = 0 := by
  have h1 : (z1 >>> 1).toNat < 2 ^ 31 := liveBits_toNat_lt z1 (by decide)
  have h2 : (z2 >>> 3).toNat < 2 ^ 29 := liveBits_toNat_lt z2 (by decide)
  have h3 : (z3 >>> 4).toNat < 2 ^ 28 := liveBits_toNat_lt z3 (by decide)
  rw [← f1_actsOnLiveBits.combine_threeSteps (by decide) z1,
    ← f2_actsOnLiveBits.combine_threeSteps (by decide) z2,
    ← f3_actsOnLiveBits.combine_threeSteps (by decide) z3,
    ← combine_append _ _ (by rw [length_columns]; exact h2),
    ← combine_append _ _ (by rw [length_columns]; exact h1), length_columns, length_columns] at h
  have hzero := eq_zero_of_combine_eq_zero (fun _ _ => rfl) independent_threeSteps
    (by simp only [List.length_append, length_columns]; omega) h
  simp only [← BitVec.toNat_inj, BitVec.ofNat_eq_ofNat, BitVec.toNat_zero]
  omega

theorem threeSteps_eq_zero {m : Nat} {f : Word → Word} (hf : ActsOnLiveBits m f) {z : Word}
    (hz : z >>> m = 0) : threeSteps f z = 0 := by
  have hzero : f z = f 0 := (hf.eq_zero hz).trans hf.linear.map_zero.symm
  rw [threeSteps_congr hzero, (threeSteps_xorLinear hf.linear).map_zero]

/-- The outputs of the first three draws as one value, the first highest. -/
theorem State.drawnWords_eq_threeSteps (s : State) :
    s.drawnWord 0 ++ s.drawnWord 1 ++ s.drawnWord 2 =
      threeSteps f1 s.z1 ^^^ (threeSteps f2 s.z2 ^^^ threeSteps f3 s.z3) := by
  rw [threeSteps, threeSteps, threeSteps, BitVec.xor_append, BitVec.xor_append, BitVec.xor_append,
    BitVec.xor_append]
  simp [State.drawnWord_eq, BitVec.xor_assoc]

theorem append_eq_zero_iff {a b : Nat} (x : BitVec a) (y : BitVec b) :
    x ++ y = 0 ↔ x = 0 ∧ y = 0 := by
  simp [← BitVec.toNat_inj]

/-- Settles O31: the three outputs are 0 exactly when the live bits are, and words above the minimums have
live bits. -/
theorem threeDrawsAreNotAllZero : Obligations.ThreeDrawsAreNotAllZero := by
  intro s hv
  have hiff : s.drawnWord 0 = 0 ∧ s.drawnWord 1 = 0 ∧ s.drawnWord 2 = 0 ↔
      s.z1 >>> 1 = 0 ∧ s.z2 >>> 3 = 0 ∧ s.z3 >>> 4 = 0 := by
    rw [← and_assoc, ← append_eq_zero_iff, ← append_eq_zero_iff, s.drawnWords_eq_threeSteps]
    refine ⟨live_eq_zero_of_threeSteps, fun ⟨h1, h2, h3⟩ => ?_⟩
    rw [threeSteps_eq_zero f1_actsOnLiveBits h1, threeSteps_eq_zero f2_actsOnLiveBits h2,
      threeSteps_eq_zero f3_actsOnLiveBits h3]
    rfl
  have hdata (w : Word) : w.setWidth 64 = 0 ↔ w = 0 := by
    rw [← BitVec.toNat_inj, BitVec.toNat_setWidth_of_le (by decide), ← BitVec.toNat_inj]
    rfl
  refine ⟨_, (s.drawnWord 0).setWidth 64, (s.drawnWord 1).setWidth 64, (s.drawnWord 2).setWidth 64,
    runCommands_replicate_next32 3 hv, rfl, ?_, fun hmin => ?_⟩
  · rw [hdata, hdata, hdata, hiff]
  · by_contra! hzero
    rw [hdata, hdata, hdata, hiff] at hzero
    obtain ⟨hlive, -⟩ := hzero
    obtain ⟨hmin1, -⟩ := hmin
    exact absurd hmin1 (not_le.mpr ((ushiftRight_eq_zero_iff s.z1 1).mp hlive))

end Sys2Proof.Machine
end

section
/-! Dead bits (spec/41_scalar_engine.md rule R68): one draw forgets them. -/

namespace Sys2Proof.Machine

/-- Rule R68: the dead bits are gone after one draw, the rest of the two blocks being alike. -/
theorem State.advance_eq_of_sameLiveBits {s t : State} (h : s.SameLiveBits t)
    (ht : t = { s with z1 := t.z1, z2 := t.z2, z3 := t.z3 }) : s.advance = t.advance := by
  obtain ⟨h1, h2, h3⟩ := h
  rw [ht, State.advance_eq, State.advance_eq, f1_actsOnLiveBits.congr h1,
    f2_actsOnLiveBits.congr h2, f3_actsOnLiveBits.congr h3]

/-- A seeding overwrites the words. -/
theorem State.seed_eq_of_sameButWords {s t : State}
    (ht : t = { s with z1 := t.z1, z2 := t.z2, z3 := t.z3 }) (w : Word × Word × Word) :
    s.seed w = t.seed w := by
  rw [ht, State.seed_eq, State.seed_eq]

/-- A drawing command reads the words only by drawing. -/
theorem exec_of_drawing_sameAdvance {i : Instr} {s t : State} (hi : i.seeds = false)
    (hs : s.valid = true) (ht : t.valid = true) (h : s.advance = t.advance) :
    ∃ r : Response, exec i s = .next ((State.advance^[i.draws] s).respond r) ∧
      exec i t = .next ((State.advance^[i.draws] t).respond r) := by
  cases i with
  | seedb b => exact nomatch hi
  | seedw w1 w2 w3 => exact nomatch hi
  | next32 => exact ⟨_, execNext32_of_seeded hs, h ▸ execNext32_of_seeded ht⟩
  | next64 => exact ⟨_, execNext64_of_seeded hs, h ▸ execNext64_of_seeded ht⟩
  | fill n =>
    have hbytes : (fillChunks (drawsFor n) n s).2 = (fillChunks (drawsFor n) n t).2 := by
      cases drawsFor n with
      | zero => rfl
      | succ d => simp [fillChunks, h]
    refine ⟨⟨.ok, 0, (fillChunks (drawsFor n) n s).2⟩, ?_, ?_⟩
    · rw [exec_fill, execFill_of_seeded hs, fillChunks_fst]; rfl
    · rw [exec_fill, execFill_of_seeded ht, fillChunks_fst, hbytes]; rfl

/-- A response leaves two blocks alike but for the words. -/
theorem State.respond_eq_of_sameButWords {s t : State}
    (ht : t = { s with z1 := t.z1, z2 := t.z2, z3 := t.z3 }) (r : Response) :
    t.respond r = { s.respond r with z1 := t.z1, z2 := t.z2, z3 := t.z3 } := by
  conv_lhs => rw [ht]
  rfl

/-- Settles O28, by the three ways a command ends: a fault and a `FILL 0` leave the words as they are, a
seeding overwrites them, and the first draw makes them the same. -/
theorem deadBitsNeverMatter : Obligations.DeadBitsNeverMatter := by
  refine ⟨fun _ _ => ⟨f1_actsOnLiveBits.congr, f2_actsOnLiveBits.congr, f3_actsOnLiveBits.congr⟩,
    fun s t i hlive ht => ?_, fun s => by simp [State.SameLiveBits]⟩
  have hv : t.valid = s.valid := by rw [ht]
  obtain ⟨hf, hes⟩ | ⟨hi, hok, -⟩ | ⟨hi, hvs, -⟩ := exec_cases i s
  · have het : exec i t = .next (t.raise (statusOf s.valid i)) := hv ▸ exec_of_fault (hv ▸ hf)
    refine ⟨_, _, hes, het, hlive, State.respond_eq_of_sameButWords ht _, fun hvs hi _ => ?_⟩
    exact absurd (by rw [statusOf_of_not_seeds hi, hvs]; rfl) hf
  · obtain ⟨w, -, he⟩ := exec_of_seeding_words hi hok
    have hw := State.seed_eq_of_sameButWords ht w
    exact ⟨_, _, he s, hw ▸ he t, ⟨rfl, rfl, rfl⟩, rfl, fun _ _ _ => rfl⟩
  · have hadv := State.advance_eq_of_sameLiveBits hlive ht
    obtain ⟨r, hes, het⟩ := exec_of_drawing_sameAdvance hi hvs (hv.trans hvs) hadv
    cases hd : i.draws with
    | zero =>
      rw [hd] at hes het
      exact ⟨_, _, hes, het, hlive, State.respond_eq_of_sameButWords ht r, fun _ _ h => by omega⟩
    | succ k =>
      rw [hd, Function.iterate_succ_apply] at hes het
      rw [hadv] at hes
      exact ⟨_, _, hes, het, ⟨rfl, rfl, rfl⟩, rfl, fun _ _ _ => rfl⟩

end Sys2Proof.Machine
end

section
/-! The drawing commands (spec/41_scalar_engine.md rules R63 to R66, R73). -/

namespace Sys2Proof.Machine

/-- What a draw and its response write, in either build, as one record. -/
theorem State.respond_advance_eq (s : State) (r : Response) :
    s.advance.respond r = { s with
      z1 := f1 s.z1, z2 := f2 s.z2, z3 := f3 s.z3
      pad := if s.build.engine = .vector then 0 else s.pad
      delivered := s.delivered ++ [r] } := by
  rw [State.advance_eq]
  rfl

/-- Settles O42: a seeded block answers with the output of its new words. -/
theorem nextWordResult : Obligations.NextWordResult := by
  refine fun s => ⟨fun hv => ⟨s.advance.output.setWidth 64, ?_, ?_⟩, execNext32_of_unseeded⟩
  · rw [BitVec.toNat_setWidth_of_le (by decide), State.output_eq, State.advance_z1, State.advance_z2,
      State.advance_z3]
  · rw [exec_next32, execNext32_of_seeded hv, State.respond_advance_eq]

/-- A word as a number, put on the data port (rule R43). -/
theorem natCast_toNat (w : Word) : ((w.toNat : Nat) : DWord) = w.setWidth 64 :=
  BitVec.ofNat_toNat 64 w

theorem natCast_shiftLeft (x n : Nat) : ((x <<< n : Nat) : DWord) = (x : DWord) <<< n := by
  apply BitVec.eq_of_toNat_eq
  simp [BitVec.toNat_shiftLeft, Nat.shiftLeft_eq]

/-- Rule R66: two words side by side are the first shifted up by 32 and the second. -/
theorem append_eq_shiftLeft_or (a b : Word) :
    a ++ b = ((a.toNat <<< 32 : Nat) : DWord) ||| b.setWidth 64 := by
  rw [natCast_shiftLeft, natCast_toNat]
  exact (BitVec.setWidth_eq (a ++ b)).symm.trans BitVec.setWidth_append_eq_shiftLeft_setWidth_or

/-- Settles O43: the draws do not read the response the first `NEXT32` adds. The statement's `a` is a number,
so the word answered stands in it by its value. -/
theorem nextDoubleIsTwoWords : Obligations.NextDoubleIsTwoWords := by
  refine fun s => ⟨fun hv => ?_, execNext64_of_unseeded⟩
  have hsecond (r : Response) : exec .next32 (s.advance.respond r) =
      .next ((s.advance.advance.respond r).respond ⟨.ok, s.advance.advance.output.setWidth 64, []⟩) := by
    rw [exec_next32, execNext32_of_seeded (by simpa using hv), State.advance_respond, State.output_eq,
      State.output_eq]
    rfl
  refine ⟨_, _, s.advance.output.toNat, s.advance.advance.output.setWidth 64,
    execNext32_of_seeded hv, ?_, hsecond _, ?_, ?_⟩
  · rw [natCast_toNat, State.respond_delivered, State.advance_delivered]
  · simp
  · rw [exec_next64, execNext64_of_seeded hv, append_eq_shiftLeft_or, State.respond,
      State.advance_delivered, State.advance_delivered]
    rfl

theorem State.aboveMinimums.iterate_advance {s : State} (h : s.aboveMinimums) (k : Nat) :
    (State.advance^[k] s).aboveMinimums := by
  induction k with
  | zero => exact h
  | succ k ih => exact Function.iterate_succ_apply' State.advance k s ▸ ih.advance

/-- Settles O55: a drawing command on a seeded block only draws, and each draw keeps the minimums. -/
theorem drawsAreTotalOnSeeded : Obligations.DrawsAreTotalOnSeeded := by
  intro i s hi hv hmin
  obtain ⟨r, hr, he⟩ := exec_of_drawing hi hv
  exact ⟨_, r, he, by simpa using hv, hmin.iterate_advance i.draws, by simp, hr⟩

end Sys2Proof.Machine
end

section
/-! The vector engine (spec/42_vector_engine.md rules R75 to R82). -/

namespace Sys2Proof.Machine

theorem hXor3_getLsbD (a : Lanes) (i : Nat) :
    (hXor3 a).getLsbD i = (a.l0.getLsbD i ^^ a.l1.getLsbD i ^^ a.l2.getLsbD i) := by
  rw [hXor3, xor32_getLsbD, xor32_getLsbD]

/-- Settles O32: no lane reads another (rule R85), so each lane obeys the rule of its primitive. -/
theorem laneOperations : Obligations.LaneOperations := by
  refine ⟨⟨rfl, rfl, rfl, rfl⟩, fun a b i => ?_, fun a n _ _ _ _ => ?_⟩
  · exact ⟨and32_getLsbD a.l0 b.l0 i, and32_getLsbD a.l1 b.l1 i, and32_getLsbD a.l2 b.l2 i,
      and32_getLsbD a.l3 b.l3 i, xor32_getLsbD a.l0 b.l0 i, xor32_getLsbD a.l1 b.l1 i,
      xor32_getLsbD a.l2 b.l2 i, xor32_getLsbD a.l3 b.l3 i, hXor3_getLsbD a i⟩
  · exact ⟨shl32_toNat a.l0 n.l0.toNat, shl32_toNat a.l1 n.l1.toNat, shl32_toNat a.l2 n.l2.toNat,
      shl32_toNat a.l3 n.l3.toNat, shr32_toNat a.l0 n.l0.toNat, shr32_toNat a.l1 n.l1.toNat,
      shr32_toNat a.l2 n.l2.toNat, shr32_toNat a.l3 n.l3.toNat⟩

/-- Rules R80 to R82: lanes 0 to 2 hold the constants of `F1`, `F2` and `F3`, the padding lane zeros. -/
theorem vStep_eq (v : Lanes) : vStep v = ⟨f1 v.l0, f2 v.l1, f3 v.l2, 0⟩ :=
  congrArg (Lanes.mk (f1 v.l0) (f2 v.l1) (f3 v.l2)) (laneStep_zero v.l3)

/-- Settles O33: the step as four lanes has 0 in lane 3 and reads lanes 0 to 2 only. -/
theorem paddingLaneIsZeroed : Obligations.PaddingLaneIsZeroed := by
  refine ⟨fun v => ?_, fun v p => ?_, by decide⟩
  · rw [vStep_eq]
  · rw [vStep_eq, vStep_eq]

/-- Settles O34: the step as four lanes is the scalar step beside a 0, and neither output reads that lane. -/
theorem vectorStepIsScalarStep : Obligations.VectorStepIsScalarStep := by
  intro a b c p
  rw [vStep_eq]
  exact ⟨rfl, rfl, rfl⟩

end Sys2Proof.Machine
end

section
/-! The byte stream of `FILL` (spec/43_byte_emission.md rules R90 to R96): the little-endian bytes of its
draws in draw order, cut to the count wanted. -/

namespace Sys2Proof.Machine

/-! ### The bytes of one word -/

/-- Rule R91: the shifter emits the bytes of its word in the order of their numbers. -/
theorem shiftOut_eq_map_leByte (n : Nat) (w : Word) : shiftOut n w = (List.range n).map (leByte w) := by
  induction n with
  | zero => rfl
  | succ n ih => rw [shiftOut_succ, ih, List.range_succ, List.map_append]; rfl

theorem toLeBytes_eq_map_leByte (w : Word) : toLeBytes w = (List.range 4).map (leByte w) := rfl

/-- The shifter, which stops after at most four bytes, emits that much of `ToLeBytes` (rules R90, R91). -/
theorem shiftOut_min_four (n : Nat) (w : Word) : shiftOut (min 4 n) w = (toLeBytes w).take n := by
  rw [shiftOut_eq_map_leByte, toLeBytes_eq_map_leByte, ← List.map_take, List.take_range, Nat.min_comm]

/-- Settles O44: the bytes of the shifter and of `ToLeBytes` are `leByte` at their numbers. -/
theorem shifterEmitsLittleEndian : Obligations.ShifterEmitsLittleEndian := by
  refine ⟨fun w n hn => ?_, fun w => ?_, by decide⟩
  · rw [← shiftOut_min_four, Nat.min_eq_right hn]
  · simp [toLeBytes, leByte_toNat]

/-! ### The state and the bytes of `FILL` -/

/-- Rules R92 and R95: `FILL` on a seeded block leaves what its draws leave and delivers its bytes. -/
theorem exec_fill_of_seeded {s : State} (hv : s.valid = true) (n : Nat) :
    exec (.fill n) s = .next ((State.advance^[drawsFor n] s).respond
      ⟨.ok, 0, (fillChunks (drawsFor n) n s).2⟩) := by
  rw [exec_fill, execFill_of_seeded hv, fillChunks_fst]

/-- Settles O46: the draws of `FILL` are those of as many `NEXT32`, and emitting writes no word. -/
theorem fillAdvancesByDraws : Obligations.FillAdvancesByDraws := by
  intro s n hv
  refine ⟨_, (fillChunks (drawsFor n) n s).2, runCommands_replicate_next32 _ hv,
    fillChunks_length _ n s (drawsFor_enough n), ?_⟩
  rw [exec_fill_of_seeded hv, State.respond, iterate_advance_delivered]
  rfl

/-- Rule R96: the loop of `FILL` emits the bytes of its draws, joined in draw order and cut to `n`. -/
theorem fillChunks_snd (d n : Nat) (s : State) :
    (fillChunks d n s).2 = ((List.range d).flatMap fun i => toLeBytes (s.drawnWord i)).take n := by
  induction d generalizing n s with
  | zero => simp [fillChunks]
  | succ d ih =>
    have hfour : (toLeBytes s.advance.output).length = 4 := rfl
    simp only [fillChunks, State.draw32_fst, State.draw32_snd]
    rw [ih, shiftOut_min_four, List.range_succ_eq_map, List.flatMap_cons, List.flatMap_map,
      State.drawnWord_zero, List.take_append, hfour]
    rfl

/-- The bytes of a word as the data port of `NEXT32` carries it (rules R43, R90). -/
theorem map_ofNat_data_drawnResponse (s : State) (i : Nat) :
    (List.range 4).map (fun k => BitVec.ofNat 8 ((s.drawnResponse i).data.toNat / 2 ^ (8 * k))) =
      toLeBytes (s.drawnWord i) := by
  rw [toLeBytes_eq_map_leByte]
  refine List.map_congr_left fun k _ => BitVec.eq_of_toNat_eq ?_
  rw [leByte_toNat, BitVec.toNat_ofNat, State.drawnResponse, BitVec.toNat_setWidth_of_le (by decide)]

/-- Settles O47: answer number `i` of the `NEXT32` carries the word `FILL` takes its chunk `i` from. -/
theorem fillIsTruncatedWordStream : Obligations.FillIsTruncatedWordStream := by
  intro s n hv
  refine ⟨_, _, (List.range (drawsFor n)).map s.drawnResponse, exec_fill_of_seeded hv n,
    runCommands_replicate_next32 _ hv, rfl, by simp [drawsFor], ?_⟩
  simp only [List.flatMap_map, map_ofNat_data_drawnResponse, ← fillChunks_snd, State.respond_delivered,
    iterate_advance_delivered]

/-- Settles O48: `ceil(0/4)` is 0, so a seeded block makes no draw; the flag is checked all the same. -/
theorem fillZeroLength : Obligations.FillZeroLength :=
  fun _ => ⟨fun hv => exec_fill_of_seeded hv 0, fun hv => execFill_of_unseeded hv 0⟩

end Sys2Proof.Machine
end

section
/-! One `FILL` cut in two (spec/43_byte_emission.md rule R97). -/

namespace Sys2Proof.Machine

/-! ### A cut behind whole words -/

theorem drawsFor_four_mul_add (q n : Nat) : drawsFor (4 * q + n) = q + drawsFor n := by
  unfold drawsFor; omega

/-- Behind `q` whole words the loop of `FILL` goes on as one begun after `q` draws. -/
theorem fillChunks_add_snd (q d n : Nat) (s : State) :
    (fillChunks (q + d) (4 * q + n) s).2 =
      (fillChunks q (4 * q) s).2 ++ (fillChunks d n (State.advance^[q] s)).2 := by
  induction q generalizing s with
  | zero => simp [fillChunks]
  | succ q ih =>
    have hwhole : min 4 (4 * (q + 1) + n) = 4 ∧ min 4 (4 * (q + 1)) = 4 := by omega
    have hrest : 4 * (q + 1) + n - 4 = 4 * q + n ∧ 4 * (q + 1) - 4 = 4 * q := by omega
    rw [Nat.succ_add, fillChunks, fillChunks]
    simp only [hwhole, hrest, State.draw32_fst, ih, List.append_assoc, Function.iterate_succ_apply]

/-- Rule R97 for whole words: the second `FILL` draws on where the first stopped, and no byte is lost. -/
theorem exec_fill_four_mul_add {s : State} (hv : s.valid = true) (q b : Nat) :
    ∃ t1 t2 x y, exec (.fill (4 * q)) s = .next t1 ∧ t1.delivered = s.delivered ++ [⟨.ok, 0, x⟩] ∧
      exec (.fill b) t1 = .next t2 ∧ t2.delivered = t1.delivered ++ [⟨.ok, 0, y⟩] ∧
      exec (.fill (4 * q + b)) s = .next { t2 with
        delivered := s.delivered ++ [⟨.ok, 0, x ++ y⟩] } := by
  have hfirst := exec_fill_of_seeded hv (4 * q)
  rw [show drawsFor (4 * q) = q from drawsFor_four_mul_add q 0] at hfirst
  have hsame (r : Response) : ((State.advance^[q] s).respond r).SameWords (State.advance^[q] s) := .refl _
  refine ⟨_, _, (fillChunks q (4 * q) s).2, (fillChunks (drawsFor b) b (State.advance^[q] s)).2, hfirst,
    by simp, exec_fill_of_seeded (by simpa using hv) b, ?_, ?_⟩
  · rw [(hsame _).fillChunks_eq, State.respond_delivered, iterate_advance_delivered]
  · rw [exec_fill_of_seeded hv, drawsFor_four_mul_add, fillChunks_add_snd, Nat.add_comm q,
      Function.iterate_add_apply, State.iterate_advance_respond]
    simp [State.respond]

/-! ### The rule's example -/

/-- A seeded block that has answered nothing yet. -/
def freshBlock (z1 z2 z3 : Word) : State :=
  { State.reset with z1 := z1, z2 := z2, z3 := z3, valid := true }

/-- Rule R72: a block answers a list of commands as a fresh block seeded with its words does. -/
theorem runCommands_of_freshBlock {is : List Instr} {s c : State} (hv : s.valid = true)
    (hc : runCommands is (freshBlock s.z1 s.z2 s.z3) = some c) :
    ∃ t, runCommands is s = some t ∧ t.delivered = s.delivered ++ c.delivered ∧ t.SameWords c := by
  obtain ⟨t, c', rs, ht, hc', hdt, hdc, hw, -, -⟩ :=
    runCommands_of_sameWords is (t := freshBlock s.z1 s.z2 s.z3) hv rfl ⟨rfl, rfl, rfl⟩
  obtain rfl : c' = c := Option.some.inj (hc'.symm.trans hc)
  exact ⟨t, ht, by rw [hdt, hdc]; rfl, hw⟩

/-- Rule R97's example in two parts: three draws, the fourth byte of the first one lost. -/
theorem runCommands_fill_three_five :
    runCommands [.fill 3, .fill 5] (freshBlock 123 301 601) =
      some { freshBlock 0x01E80F3A 0x00128000 0x680004B2 with
        delivered := [⟨.ok, 0, [0x83, 0xB2, 0xA7]⟩, ⟨.ok, 0, [0x80, 0x02, 0x05, 0x7A, 0x88]⟩] } := by
  decide

/-- Rule R97's example in one part: two draws. -/
theorem runCommands_fill_eight :
    runCommands [.fill 8] (freshBlock 123 301 601) =
      some { freshBlock 0x7A001E80 0x00012800 0x00043400 with
        delivered := [⟨.ok, 0, [0x83, 0xB2, 0xA7, 0x04, 0x80, 0x02, 0x05, 0x7A]⟩] } := by
  decide

/-- Settles O49: a multiple of 4 is a cut behind whole words; the example runs on the words alone. -/
theorem fillSplitsAtMultiplesOfFour : Obligations.FillSplitsAtMultiplesOfFour := by
  refine ⟨fun s a b hv ha => ?_, fun s h1 h2 h3 hv => ?_⟩
  · obtain ⟨q, rfl⟩ := Nat.dvd_of_mod_eq_zero ha
    exact exec_fill_four_mul_add hv q b
  · have hfresh : freshBlock s.z1 s.z2 s.z3 = freshBlock 123 301 601 := by rw [h1, h2, h3]
    obtain ⟨t, ht, hdt, ht1, ht2, ht3⟩ :=
      runCommands_of_freshBlock hv (hfresh ▸ runCommands_fill_three_five)
    obtain ⟨u, hu, hdu, hu1, hu2, hu3⟩ :=
      runCommands_of_freshBlock hv (hfresh ▸ runCommands_fill_eight)
    refine ⟨t, u, ht, hu, hdt, hdu, ?_, ?_⟩
    · rw [ht1, ht2, ht3]; rfl
    · rw [hu1, hu2, hu3]; rfl

end Sys2Proof.Machine
end

section
/-! The answer to a command and to a command word: its status, and what a fault leaves
(spec/60_exceptions.md rules R100 to R104). -/

namespace Sys2Proof.Machine

/-- `o` is the end of a command begun in `s` and answered with status `f`: one response is added, and a
fault adds an empty one and changes nothing else (rules R45, R100). -/
def State.Answers (s : State) (f : Status) (o : Host.Outcome State Fault Refusal) : Prop :=
  ∃ (u : State) (r : Response), o = .next (u.respond r) ∧ u.delivered = s.delivered ∧ r.status = f ∧
    (f ≠ .ok → u = s ∧ r = ⟨f, 0, []⟩)

theorem State.answers_raise (s : State) (f : Status) : s.Answers f (.next (s.raise f)) :=
  ⟨s, ⟨f, 0, []⟩, rfl, rfl, rfl, fun _ => ⟨rfl, rfl⟩⟩

theorem State.answers_ok {s u : State} {r : Response} (hd : u.delivered = s.delivered)
    (hr : r.status = .ok) : s.Answers .ok (.next (u.respond r)) :=
  ⟨u, r, rfl, hd, hr, fun h => absurd rfl h⟩

/-- Every command is answered with its status in the table of rule R104. -/
theorem exec_answers (i : Instr) (s : State) : s.Answers (statusOf s.valid i) (exec i s) := by
  obtain ⟨-, he⟩ | ⟨-, hok, w, he⟩ | ⟨hi, hv, r, hr, he⟩ := exec_cases i s
  · exact he ▸ s.answers_raise _
  · rw [he, hok]
    exact State.answers_ok (by simp) rfl
  · rw [he, statusOf_of_not_seeds hi, if_pos hv]
    exact State.answers_ok (by simp) hr

/-- The whole table of rule R104: the status of what the decoder reads from a word, a reserved word
included. -/
def statusOfWord (valid : Bool) : Except Reject Instr → Status
  | .ok i => statusOf valid i
  | .error _ => .illegalCommand

/-- Every command word is answered with its status in the table, from the state the move is taken in. -/
theorem step_answers {s : State} {w : CmdWord} {ms : List Move} (h : s.moves = .cmd w :: ms) :
    s.takeMove.Answers (statusOfWord s.valid (decode s.build w)) (step s) := by
  cases hw : decode s.build w with
  | ok i => exact step_of_command h hw ▸ exec_answers i s.takeMove
  | error e => exact step_of_rejected h hw ▸ s.takeMove.answers_raise .illegalCommand

theorem State.takeMove_eq {s : State} {m : Move} {ms : List Move} (h : s.moves = m :: ms) :
    s.takeMove = { s with moves := ms } := by
  simp [State.takeMove, h]

@[simp] theorem State.rspStatus_respond (s : State) (r : Response) :
    (s.respond r).rspStatus = some (statusCode r.status) := by
  simp [State.rspStatus]

/-! ### The cause of each fault -/

/-- A seeding command is answered `OK` or `InvalidSeed`, whatever the flag (rules R53, R54, R106). -/
theorem statusOf_of_seeds {i : Instr} (hi : i.seeds = true) (v : Bool) :
    statusOf v i = .ok ∨ statusOf v i = .invalidSeed := by
  cases i with
  | seedb b => exact .inl rfl
  | seedw w1 w2 w3 => cases hw : seedValid w1 w2 w3 <;> simp [statusOf_seedw, hw]
  | next32 => exact nomatch hi
  | next64 => exact nomatch hi
  | fill n => exact nomatch hi

/-- Rule R101 on the table. -/
theorem statusOf_eq_invalidSeed_iff (v : Bool) (i : Instr) :
    statusOf v i = .invalidSeed ↔ ∃ w1 w2 w3, i = .seedw w1 w2 w3 ∧
      (w1.toNat < 2 ∨ w2.toNat < 8 ∨ w3.toNat < 16) := by
  cases i with
  | seedw w1 w2 w3 =>
    constructor
    · intro h
      refine ⟨w1, w2, w3, rfl, of_not_not fun hmin => ?_⟩
      exact nomatch h.symm.trans (if_neg hmin)
    · rintro ⟨_, _, _, ⟨⟩, hlow⟩
      exact if_pos hlow
  | seedb b => simp [statusOf]
  | next32 => cases v <;> simp [statusOf]
  | next64 => cases v <;> simp [statusOf]
  | fill n => cases v <;> simp [statusOf]

/-- Rule R102 on the table. -/
theorem statusOf_eq_notSeeded_iff (v : Bool) (i : Instr) :
    statusOf v i = .notSeeded ↔ i.seeds = false ∧ v = false := by
  cases hi : i.seeds with
  | false => cases v <;> simp [statusOf_of_not_seeds hi]
  | true => obtain h | h := statusOf_of_seeds hi v <;> simp [h]

/-- Rule R103 on the table: no command is answered as a reserved word is. -/
theorem statusOf_ne_illegalCommand (v : Bool) (i : Instr) : statusOf v i ≠ .illegalCommand := by
  cases hi : i.seeds with
  | false => cases v <;> simp [statusOf_of_not_seeds hi]
  | true => obtain h | h := statusOf_of_seeds hi v <;> simp [h]

/-- Rule R41: the decoder reads a command from every word whose opcode is not reserved. -/
theorem decode_of_not_reserved (b : Build) {w : CmdWord} (h : 1 ≤ opNumber w ∧ opNumber w ≤ 5) :
    ∃ i, decode b w = .ok i := by
  obtain ⟨-, -, -, -, -, -, hreserved⟩ := opcodeMap b w
  cases hw : decode b w with
  | ok i => exact ⟨i, rfl⟩
  | error e =>
    have := hreserved.mpr ⟨e, hw⟩
    omega

/-! ### The obligations -/

/-- Settles O11: the decoder rejects the three reserved opcodes, and no command has their status. -/
theorem reservedOpcodeIsIllegalCommand : Obligations.ReservedOpcodeIsIllegalCommand := by
  refine ⟨fun s w ms h hop => ?_, fun s w ms h hop => ?_⟩
  · refine ⟨_, step_of_rejected h (decode_reserved s.build hop), State.rspStatus_raise _ _, ?_⟩
    rw [State.takeMove_eq h]
    rfl
  · obtain ⟨i, hw⟩ := decode_of_not_reserved s.build hop
    obtain ⟨u, r, hstep, hd, hstatus, -⟩ := step_answers h
    refine ⟨_, r, hstep, by simp [hd], ?_⟩
    rw [hstatus, hw]
    exact statusOf_ne_illegalCommand s.valid i

/-- Settles O38, on the table of rule R104. -/
theorem invalidSeedExactly : Obligations.InvalidSeedExactly := by
  refine ⟨rfl, fun i s => ?_⟩
  obtain ⟨u, r, he, hd, hstatus, -⟩ := exec_answers i s
  exact ⟨_, r, he, by simp [hd], hstatus ▸ statusOf_eq_invalidSeed_iff s.valid i⟩

/-- Settles O51: a fault adds an empty response to the state the move was taken in. -/
theorem faultsChangeNothing : Obligations.FaultsChangeNothing := by
  intro s w ms h
  obtain ⟨u, r, hstep, hd, hstatus, hfault⟩ := step_answers h
  refine ⟨_, r, hstep, by simp [hd], fun hr => ?_⟩
  obtain ⟨rfl, hempty⟩ := hfault (hstatus ▸ hr)
  refine ⟨by rw [hempty], by rw [hempty], ?_⟩
  rw [State.takeMove_eq h]
  rfl

/-- Settles O52: the cause on the table of rule R104, the frame as of every fault. -/
theorem notSeededExactly : Obligations.NotSeededExactly := by
  refine ⟨rfl, fun i s => ?_⟩
  obtain ⟨u, r, he, hd, hstatus, hfault⟩ := exec_answers i s
  refine ⟨_, r, he, by simp [hd], hstatus ▸ statusOf_eq_notSeeded_iff s.valid i, fun hr => ?_⟩
  have hns : statusOf s.valid i = .notSeeded := hstatus.symm.trans hr
  rw [hns] at hfault
  obtain ⟨rfl, rfl⟩ := hfault nofun
  rfl

/-- Settles O53: the status is the table's, and `rsp_status` its code. -/
theorem statusTable : Obligations.StatusTable := by
  intro s w ms h
  obtain ⟨u, r, hstep, hd, hstatus, -⟩ := step_answers h
  have hcode (f : Status) (hf : r.status = f) : (u.respond r).rspStatus = some (statusCode f) :=
    hf ▸ u.rspStatus_respond r
  refine ⟨_, r, hstep, by simp [hd], fun i hw => ?_, fun e hw => ?_⟩
  · rw [hw] at hstatus
    exact ⟨hstatus, fun hi => hcode .ok (hstatus.trans hi), fun hi => hcode .invalidSeed (hstatus.trans hi),
      fun hi => hcode .notSeeded (hstatus.trans hi)⟩
  · rw [hw] at hstatus
    exact ⟨hstatus, hcode .illegalCommand hstatus⟩

end Sys2Proof.Machine
end

section
/-! The host's moves, one equation each, and what the reset event forgets
(spec/70_reset_and_hazards.md rules R120, R129). -/

namespace Sys2Proof.Machine

/-- Settles O9: the command is performed in the state the move is taken in. -/
theorem stepRunsDecodedCommand : Obligations.StepRunsDecodedCommand := by
  intro s w ms i h hw
  rw [step_of_command h hw, State.takeMove_eq h]

@[simp] theorem State.withFetchWord_takeMove (s : State) (nbits w : Nat) :
    (s.withFetchWord nbits w).takeMove = s :=
  s.present_takeMove _

/-- Settles O10: taking the presented move gives back the state the word was presented to. -/
theorem presentedWordRunsNext : Obligations.PresentedWordRunsNext := by
  intro s nbits w i hw
  have hstep : step (s.withFetchWord nbits w) = exec i (s.withFetchWord nbits w).takeMove :=
    step_of_command (State.present_moves s _) hw
  rw [hstep, State.withFetchWord_takeMove]

/-- Blocks that differ in the words, the padding lane and the flag only are the same after a reset. -/
theorem State.resetEvent_takeMove_congr (s : State) (z1 z2 z3 p : Word) (v : Bool) :
    ({ s with z1 := z1, z2 := z2, z3 := z3, pad := p, valid := v } : State).takeMove.resetEvent =
      s.takeMove.resetEvent := rfl

/-- Settles O12: both blocks take the reset, and it leaves them the same. -/
theorem resetEvent : Obligations.ResetEvent := by
  intro s ms z1 z2 z3 p v h
  refine ⟨_, step_of_reset h, by simp, by simp, by simp [h], by simp, ?_⟩
  rw [← s.resetEvent_takeMove_congr z1 z2 z3 p v]
  exact step_of_reset h

/-- Settles O13: the equation of a step for a host with no move left (log 2). -/
theorem noMoveChangesNothing : Obligations.NoMoveChangesNothing :=
  fun _ => step_of_nil

end Sys2Proof.Machine
end

section
/-! The component functions over GF(2) (spec/41_scalar_engine.md section 5). -/

namespace Sys2Proof.Machine

/-- Settles O27: each function is the one formula at its own amounts, and the formula is linear. -/
theorem componentsAreLinear : Obligations.ComponentsAreLinear :=
  fun a b => ⟨f1_actsOnLiveBits.linear a b, f2_actsOnLiveBits.linear a b, f3_actsOnLiveBits.linear a b⟩

end Sys2Proof.Machine
end
